-- ==== Sys2Proof/Word.lean ====
section
/-! DEFINITION. The numbers that name things in the FZ208 (0.5.5): bytes, tiers, slots, handles, records, hold entries. -/

namespace Sys2Proof

/-- One byte of a frame's data field (R175). -/
abbrev Byte := BitVec 8

/-- A tier, 0..23 (0.5.5). -/
abbrev TierNo := Fin 24

/-- A claim slot of a tier, 0..3 (0.5.5). -/
abbrev SlotNo := Fin 4

/-- A claim record, 0..63 (R39). -/
abbrev RecNo := Fin 64

/-- A zone hold entry, 0..7 (R86). -/
abbrev HoldNo := Fin 8

/-- A handle names one claim slot of one tier; the manual writes it tier.slot (0.5.5). -/
structure Handle where
  tier : TierNo
  slot : SlotNo
  deriving DecidableEq, Repr

end Sys2Proof
end

