-- ==== Sys2Proof/Syntax.lean ====
section
/-! DEFINITION. The events the FZ208 takes: one constructor for each row of the table of operations. -/

namespace Sys2Proof

/-- The format in which a frame travels on a CAN FD link (R152, R164). -/
inductive FrameFormat where
  /-- The classic format. -/
  | classic
  /-- The flexible-data-rate format without bit-rate switch. -/
  | fd
  /-- The flexible-data-rate format with bit-rate switch. -/
  | fdSwitch
  deriving DecidableEq, Repr

/-- A frame on a link, as a node received it without error. -/
structure Frame where
  format : FrameFormat
  /-- The identifier has 29 bits, not 11 (R152). -/
  extended : Bool
  /-- The frame is a remote request frame (R152). -/
  remote : Bool
  ident : Nat
  /-- The data field, byte 0 first (R175). -/
  data : List Byte
  deriving DecidableEq, Repr

/-- The two rate straps of one link (0.7); `true` is a high level. -/
structure RateStraps where
  nominal : Bool
  dataRate : Bool
  deriving DecidableEq, Repr

/-- The straps of both links: MPNR, MPDR and CPNR, CPDR (0.7). -/
structure StrapPins where
  mp : RateStraps
  cp : RateStraps
  deriving DecidableEq, Repr

/-- What makes a power-on reset (R143): power-up, at which both ports sample their straps (R152, R164),
or a low level on RESETN, at which they do not. -/
inductive ResetCause where
  | powerUp (straps : StrapPins)
  | resetnLow
  deriving DecidableEq, Repr

/-- The error conditions of a link (R158). -/
inductive LinkError where
  | bit
  | stuff
  | crc
  | form
  | acknowledgement
  deriving DecidableEq, Repr

/-- Why an attempt to send failed (R161, R167). An attempt that brings the transmit error count to 256 also
enters BUS-OFF; that is the effect of its error, not another cause. -/
inductive TxFailure where
  | lostArbitration
  | error (e : LinkError)
  deriving DecidableEq, Repr

/-- The events of the part, one constructor per row of the table of operations, in the table's order.

The table gives its rows no fields. The events of the lines, of time and of the links carry what their rules say
arrives with them. The events at which an owner takes an entry of a FIFO (CLAIM to RELEASE, R157; the console
commands, R166) carry nothing of their own: their arguments are the data bytes of the entry they take. -/
inductive Instr where
  /-- POWER_ON_RESET (R143): power-up or a low level on RESETN, with the level of STOPN (R173). -/
  | powerOnReset (cause : ResetCause) (stopnLow : Bool)
  /-- RESETN_RISING_EDGE (R143): the straps and the level of STOPN are sampled. -/
  | resetnRisingEdge (straps : StrapPins) (stopnLow : Bool)
  /-- STOPN_ASSERTION (R148). -/
  | stopnAssertion
  /-- STOPN_RELEASE (R148). -/
  | stopnRelease
  /-- TICK (R113). Expiries that fall at one tick have no order between them (R114): those of the tiers in `order`
  are taken in that order, any others after them. -/
  | tick (order : List TierNo)
  /-- LEASE_EXPIRY (R114): a tick's expiry of one tier's lease, taken as the fault event of its own that R114 makes it. -/
  | leaseExpiry (tier : TierNo)
  /-- MP_FRAME_ARRIVAL (R154): a frame received without error on the machinery link. -/
  | mpFrameArrival (frame : Frame)
  /-- MP_RECEIVE_ERROR (R158). -/
  | mpReceiveError
  /-- BUS_OFF_RECOVERY (R159): the 128th occurrence of 11 recessive bits on MPRXD. -/
  | busOffRecovery
  /-- DISABLED_ENTRY_DISCARD (R157). -/
  | disabledEntryDiscard
  /-- CLAIM (R43): the Claim Store takes a CLAIM entry. -/
  | claim
  /-- CANCEL (R50): the Claim Store takes a CANCEL entry. -/
  | cancel
  /-- REPORT (R105): the Motion Supervisor takes a REPORT entry. -/
  | report
  /-- RELEASE (R116): the Motion Supervisor takes a RELEASE entry. -/
  | release
  /-- VISIT (R67). -/
  | visit
  /-- NOTICE_START (R160). -/
  | noticeStart
  /-- NOTICE_COMPLETION (R161). -/
  | noticeCompletion
  /-- NOTICE_FAILURE (R161). -/
  | noticeFailure (cause : TxFailure)
  /-- CP_COMMAND_ARRIVAL (R165): a frame received without error on the console link (R164). -/
  | cpCommandArrival (frame : Frame)
  /-- CP_RECEIVE_ERROR (R164). -/
  | cpReceiveError
  /-- CP_BUS_OFF_RECOVERY (R164). -/
  | cpBusOffRecovery
  /-- REPLY_START (R167). -/
  | replyStart
  /-- REPLY_COMPLETION (R167). -/
  | replyCompletion
  /-- REPLY_FAILURE (R167). -/
  | replyFailure (cause : TxFailure)
  /-- UNKNOWN_COMMAND (R166): execution of a frame that is too short or has an undefined code. -/
  | unknownCommand
  /-- READ_STATUS (R170). -/
  | readStatus
  /-- SET_MASK (R174). -/
  | setMask
  /-- READ_FAULT (R137). -/
  | readFault
  /-- CLEAR_FAULT (R138). -/
  | clearFault
  /-- SET_MODE (R144). -/
  | setMode
  /-- HALT (R147). -/
  | halt
  /-- RESUME (R149). -/
  | resume
  /-- SOFT_RESET (R151). -/
  | softReset
  /-- WRITE_TIER (R21). -/
  | writeTier
  /-- READ_TIER (R25). -/
  | readTier
  /-- SET_REST (R36). -/
  | setRest
  /-- ADOPT (R37). -/
  | adopt
  /-- WRITE_GLOBAL (R24). -/
  | writeGlobal
  /-- READ_GLOBAL (R25). -/
  | readGlobal
  /-- WRITE_CEILING (R6). -/
  | writeCeiling
  /-- SET_POOL (R95). -/
  | setPool
  /-- PLACE_HOLD (R87). -/
  | placeHold
  /-- LIFT_HOLD (R90). -/
  | liftHold
  /-- CANCEL_CLAIM (R51). -/
  | cancelClaim
  /-- CLEAR_TIER (R139). -/
  | clearTier
  /-- SET_CURSOR (R171). -/
  | setCursor
  /-- READ_NEXT (R172). -/
  | readNext
  deriving DecidableEq, Repr

end Sys2Proof
end

