-- ==== Sys2Proof/Decode.lean ====
section
/-! DEFINITION. Words of the table of operations. -/

namespace Sys2Proof

/-- The command that a word of the table's bits spells. No row of the table of operations gives a bit, a mask or a
field, so no word spells a command. (The identifiers and data bytes of R153 and R175 to R179, which do spell frames
and console commands, are read in Machine/Operands.lean.) -/
def decodeTableWord (_nbits _w : Nat) : Option Instr :=
  none

end Sys2Proof
end

