-- ==== Sys2Proof/Machine/State.lean ====
section
/-! DEFINITION. The state of the FZ208: every item its thirteen blocks hold (0.3), as plain data, and its value after reset. -/

namespace Sys2Proof.Machine

/-- The device mode (R143). -/
inductive Mode where
  | config
  | run
  | halt
  deriving DecidableEq, Repr

/-- A ring position with a rake (0.6). -/
structure Pose where
  pos : Nat
  rake : Nat
  deriving DecidableEq, Repr

/-- An arc: a start position and a length of 1..65535 ring counts (0.5.3). -/
structure Arc where
  start : Nat
  length : Nat
  deriving DecidableEq, Repr

/-- The direction of a claim that slews (R40). -/
inductive Dir where
  | cw
  | ccw
  deriving DecidableEq, Repr

/-- A claim's kind with the fields its kind uses: direction and target position for SLEW and BOTH, target rake for
RAKE and BOTH (R40). -/
inductive Motion where
  | slew (dir : Dir) (target : Nat)
  | rake (targetRake : Nat)
  | both (dir : Dir) (target : Nat) (targetRake : Nat)
  deriving DecidableEq, Repr

/-- The fields of a claim record that R40 marks "from grant". -/
structure Grant where
  arc : Arc
  lo : Nat
  hi : Nat
  slewDraw : Nat
  hydDraw : Nat
  deriving DecidableEq, Repr

/-- The state of a non-FREE claim record (R42); the fields from grant are there exactly when it is not WAITING (R40). -/
inductive Phase where
  | waiting
  | granted (g : Grant)
  | stopping (g : Grant)
  | frozen (g : Grant)
  deriving DecidableEq, Repr

/-- A non-FREE claim record (R40). -/
structure Claim where
  handle : Handle
  motion : Motion
  /-- The effective priority (R41). -/
  priority : Nat
  /-- The declared origin pose (R40). -/
  origin : Pose
  phase : Phase
  deriving DecidableEq, Repr

/-- The claim states a mailbox shows (R54). -/
inductive ClaimState where
  | free
  | waiting
  | granted
  | stopping
  | frozen
  deriving DecidableEq, Repr

/-- The nineteen mailbox results (R56). -/
inductive Result where
  | none
  | queued
  | granted
  | arrived
  | short
  | stopped
  | cancelled
  | revoked
  | refusedMode
  | refusedRange
  | refusedCeiling
  | refusedTier
  | refusedFull
  | origin
  | ceiling
  | tierFault
  | faulted
  | mode
  | reset
  deriving DecidableEq, Repr

/-- A notice mailbox (R54). -/
structure Mailbox where
  state : ClaimState
  result : Result
  pending : Bool
  deriving DecidableEq, Repr

/-- The five per-tier hard fault kinds, the values of a tier's fault kind (R31, R123). -/
inductive HardKind where
  | lease
  | contain
  | envelope
  | creep
  | drive
  deriving DecidableEq, Repr

/-- The eleven fault kinds (R123). -/
inductive FaultKind where
  | tier (k : HardKind)
  | hallStop
  | seqGap
  | rakeClamp
  | shortArrival
  | protocol
  | rxLost
  deriving DecidableEq, Repr

/-- A fault report with the mode at detection (R124, R134). Its severity follows from its kind (R123). -/
structure FaultRecord where
  kind : FaultKind
  tier : Option TierNo
  slot : Option SlotNo
  pose : Option Pose
  mode : Mode
  deriving DecidableEq, Repr

/-- The ten configuration fields of a tier record (R20). -/
structure TierConfig where
  enabled : Bool
  /-- Body half-width H. -/
  halfWidth : Nat
  /-- Wing width X. -/
  wing : Nat
  /-- Fold point F. -/
  fold : Nat
  /-- Slew demand Ds. -/
  slewDemand : Nat
  /-- Rake demand Dh. -/
  rakeDemand : Nat
  bestPriority : Nat
  /-- Encoder origin O. -/
  origin : Nat
  /-- Ring multiplier M. -/
  mult : Nat
  reverse : Bool
  deriving DecidableEq, Repr

/-- A tier record (chapter 2). -/
structure Tier where
  cfg : TierConfig
  /-- Position and rake of the rest pose, kept also while the tier is not placed (R26). -/
  rest : Pose
  /-- The standing arc; present exactly when the placed flag is set (R26, R27). -/
  standing : Option Arc
  /-- The tracked pose (R28). -/
  tracked : Pose
  havePose : Bool
  /-- The last accepted sequence (R29). -/
  lastSeq : Nat
  haveSeq : Bool
  /-- The lease countdown (R30). -/
  lease : Nat
  leaseRunning : Bool
  /-- The fault kind (R31). -/
  fault : Option HardKind
  /-- The leg queue, head first (R32). -/
  legs : List SlotNo
  deriving DecidableEq, Repr

/-- The seven global motion parameters (R23). -/
structure Globals where
  /-- Clearance margin G. -/
  margin : Nat
  /-- Trim back-off B. -/
  backoff : Nat
  /-- Arrival tolerance T. -/
  arrivalTol : Nat
  /-- Rake tolerance Rt. -/
  rakeTol : Nat
  /-- Creep limit Lc. -/
  creepLimit : Nat
  /-- Stop margin Ms. -/
  stopMargin : Nat
  leasePeriod : Nat
  deriving DecidableEq, Repr

/-- One power pool (R92). -/
structure Pool where
  capacity : Nat
  committed : Nat
  deriving DecidableEq, Repr

/-- The scan state of the Admission Engine (R63). -/
structure Scan where
  running : Bool
  rescan : Bool
  marks : Vector Bool 64
  shadows : List Arc
  hydShadow : Bool
  slewShadow : Bool
  deriving DecidableEq, Repr

/-- A port's link state (R158). -/
inductive LinkState where
  | onLine
  | passive
  | busOff
  deriving DecidableEq, Repr

/-- A port's hold on its link (R158, R164) and the rate straps it sampled (R152, R164). -/
structure Port where
  txErrors : Nat
  rxErrors : Nat
  link : LinkState
  straps : RateStraps
  deriving DecidableEq, Repr

/-- An entry of the MP inbound FIFO: class, tier, slot for the classes that have one, needed data bytes (R156). -/
inductive MpEntry where
  | report (tier : TierNo) (data : List Byte)
  | claim (handle : Handle) (data : List Byte)
  | cancel (handle : Handle)
  | release (handle : Handle) (data : List Byte)
  deriving DecidableEq, Repr

/-- A NOTICE in transmission: its handle and the contents copied at its start (R161). -/
structure NoticeTx where
  handle : Handle
  state : ClaimState
  result : Result
  deriving DecidableEq, Repr

/-- An entry of the CP inbound FIFO: the data bytes up to the sixteenth and the length of the data field (R165). -/
structure CpEntry where
  data : List Byte
  length : Nat
  deriving DecidableEq, Repr

/-- The fifteen status codes of a reply (R169). -/
inductive Status where
  | ok
  | clamped
  | mode
  | busy
  | range
  | full
  | unplaced
  | overlap
  | ceiling
  | noPose
  | stopline
  | notActive
  | notFaulted
  | ended
  | unknown
  deriving DecidableEq, Repr

/-- A reply: its tag, its status, bits 4 to 7 of its byte 1, and its result bytes from byte 2 on, complete as
written at execution (R167, R178). -/
structure Reply where
  tag : Byte
  status : Status
  high : Nat
  results : List Byte
  deriving DecidableEq, Repr

/-- The six tables a cursor can name (R172). -/
inductive TableId where
  | tiers
  | claims
  | waitList
  | holds
  | ceiling
  | mailboxes
  deriving DecidableEq, Repr

/-- The console's cursor (R171). -/
structure Cursor where
  table : TableId
  index : Nat
  deriving DecidableEq, Repr

/-- One bit for each attention condition: the seven flags (R173), or the seven enables (R174). -/
structure AttentionBits where
  fault : Bool
  hard : Bool
  second : Bool
  halt : Bool
  stopline : Bool
  overdrawn : Bool
  tierFault : Bool
  deriving DecidableEq, Repr

/-- The whole part. Each field is one item of state of 0.3, or a pin. -/
structure State where
  /-- RESETN is low: every block is held at its power-on values (R143). -/
  resetHeld : Bool
  /-- STOPN is asserted: an assertion has been taken and no release since (R148), or it was sampled low (R143). -/
  stopnLow : Bool
  mode : Mode
  tiers : Vector Tier 24
  globals : Globals
  /-- The Ceiling Profile (R5). -/
  ceilings : Vector Nat 256
  /-- The claim records; `none` is FREE (R39). -/
  records : Vector (Option Claim) 64
  /-- The notice mailboxes; that of tier.slot is number 4·tier + slot (R54, R57). -/
  mailboxes : Vector Mailbox 96
  /-- The wait list (R60). -/
  waitList : List RecNo
  scan : Scan
  /-- The Hold List; `none` is a free entry (R86). -/
  holds : Vector (Option Arc) 8
  hyd : Pool
  slew : Pool
  /-- The Fault Capture record; `none` is empty (R134). -/
  capture : Option FaultRecord
  /-- The Fault Capture's SECOND (R134). -/
  second : Bool
  /-- The MP inbound FIFO, oldest first (R156). -/
  mpFifo : List MpEntry
  mpPort : Port
  /-- The NOTICE in transmission (R161). -/
  mpTx : Option NoticeTx
  /-- The PERMIT lines; `true` is active (R162). -/
  permit : Vector Bool 24
  /-- The CP inbound FIFO, oldest first (R165). -/
  cpFifo : List CpEntry
  /-- The reply FIFO, oldest first (R167). -/
  replies : List Reply
  cpPort : Port
  /-- The reply in transmission (R167). -/
  cpTx : Option Reply
  cursor : Cursor
  flags : AttentionBits
  enables : AttentionBits
  /-- The ATTN line; `true` is driven high (R174). -/
  attn : Bool
  /-- The model's own field, not the part's: the events waiting to be taken, the next one first. -/
  pending : List Instr
  deriving DecidableEq, Repr

/-- Why the machine stops. It has no constructor: the spec gives every event an effect in every state, so no
event stops the part and no meaning answers a fault (safe: nothing is left out by a stop). -/
inductive Fault where
  deriving DecidableEq, Repr

/-- Why a command is refused by the model. -/
inductive Refusal where
  /-- Raised by an arm of `exec` for a row that has no meaning yet; no arm does (safe: the model stops). -/
  | notModelled (mnemonic : String)
  deriving DecidableEq, Repr

/-! ### Values after a power-on reset -/

/-- The configuration fields' power-on values (R20). -/
def TierConfig.powerOn : TierConfig :=
  { enabled := false, halfWidth := 1, wing := 0, fold := 0, slewDemand := 0, rakeDemand := 0, bestPriority := 0,
    origin := 0, mult := 4096, reverse := false }

/-- A tier record's power-on values (R20, R26 to R32). -/
def Tier.powerOn : Tier :=
  { cfg := TierConfig.powerOn, rest := ⟨0, 0⟩, standing := none, tracked := ⟨0, 0⟩, havePose := false, lastSeq := 0,
    haveSeq := false, lease := 0, leaseRunning := false, fault := none, legs := [] }

/-- The global motion parameters' power-on values (R23). -/
def Globals.powerOn : Globals :=
  { margin := 256, backoff := 128, arrivalTol := 64, rakeTol := 5, creepLimit := 64, stopMargin := 1024,
    leasePeriod := 20 }

/-- The scan state while no scan runs (R63, R66). -/
def Scan.idle : Scan :=
  { running := false, rescan := false, marks := Vector.replicate 64 false, shadows := [], hydShadow := false,
    slewShadow := false }

/-- A port after a power-on reset, with the straps it holds (R158). -/
def Port.powerOn (straps : RateStraps) : Port :=
  { txErrors := 0, rxErrors := 0, link := .onLine, straps := straps }

/-- No attention bit set. -/
def AttentionBits.clear : AttentionBits :=
  { fault := false, hard := false, second := false, halt := false, stopline := false, overdrawn := false,
    tierFault := false }

/-- Every attention bit set: the enables after a power-on reset (R174). -/
def AttentionBits.all : AttentionBits :=
  { fault := true, hard := true, second := true, halt := true, stopline := true, overdrawn := true, tierFault := true }

/-- The part right after the rising edge of RESETN that ends a power-on reset (R143), in CONFIG, every block at its
power-on values. DESIGN CHOICE (assumption log 1; unsafe): STOPN is sampled high and every rate strap low. -/
def State.reset : State :=
  { resetHeld := false
    stopnLow := false
    mode := .config
    tiers := Vector.replicate 24 Tier.powerOn
    globals := Globals.powerOn
    ceilings := Vector.replicate 256 0
    records := Vector.replicate 64 none
    mailboxes := Vector.replicate 96 ⟨.free, .none, false⟩
    waitList := []
    scan := Scan.idle
    holds := Vector.replicate 8 none
    hyd := ⟨0, 0⟩
    slew := ⟨0, 0⟩
    capture := none
    second := false
    mpFifo := []
    mpPort := Port.powerOn ⟨false, false⟩
    mpTx := none
    permit := Vector.replicate 24 false
    cpFifo := []
    replies := []
    cpPort := Port.powerOn ⟨false, false⟩
    cpTx := none
    cursor := ⟨.tiers, 0⟩
    flags := AttentionBits.clear
    enables := AttentionBits.all
    attn := false
    pending := [] }

end Sys2Proof.Machine
end

