-- ==== Sys2Proof/Machine/Codes.lean ====
section
/-! DEFINITION. The code values used on either link (R179). -/

namespace Sys2Proof.Machine

/-- The tier states (R35). The state of a tier is derived, never stored. -/
inductive TierState where
  | disabled
  | unplaced
  | idle
  | moving
  | stopping
  | faulted
  deriving DecidableEq, Repr

/-- Mode codes (R179). -/
def Mode.code : Mode → Nat
  | .config => 0
  | .run => 1
  | .halt => 2

/-- Claim state codes (R179). -/
def ClaimState.code : ClaimState → Nat
  | .free => 0
  | .waiting => 1
  | .granted => 2
  | .stopping => 3
  | .frozen => 4

/-- Result codes (R179). -/
def Result.code : Result → Nat
  | .none => 0
  | .queued => 1
  | .granted => 2
  | .arrived => 3
  | .short => 4
  | .stopped => 5
  | .cancelled => 6
  | .revoked => 7
  | .refusedMode => 8
  | .refusedRange => 9
  | .refusedCeiling => 10
  | .refusedTier => 11
  | .refusedFull => 12
  | .origin => 13
  | .ceiling => 14
  | .tierFault => 15
  | .faulted => 16
  | .mode => 17
  | .reset => 18

/-- Status codes (R179). -/
def Status.code : Status → Nat
  | .ok => 0
  | .clamped => 1
  | .mode => 2
  | .busy => 3
  | .range => 4
  | .full => 5
  | .unplaced => 6
  | .overlap => 7
  | .ceiling => 8
  | .noPose => 9
  | .stopline => 10
  | .notActive => 11
  | .notFaulted => 12
  | .ended => 13
  | .unknown => 14

/-- Codes of the per-tier hard fault kinds (R179). -/
def HardKind.code : HardKind → Nat
  | .lease => 1
  | .contain => 2
  | .envelope => 3
  | .creep => 4
  | .drive => 5

/-- A tier's fault kind as a code; none is 0 (R179). -/
def faultKindCode : Option HardKind → Nat
  | none => 0
  | some k => k.code

/-- Fault kind codes (R179). -/
def FaultKind.code : FaultKind → Nat
  | .tier k => k.code
  | .hallStop => 6
  | .seqGap => 7
  | .rakeClamp => 8
  | .shortArrival => 9
  | .protocol => 10
  | .rxLost => 11

/-- Tier state codes (R179). -/
def TierState.code : TierState → Nat
  | .disabled => 0
  | .unplaced => 1
  | .idle => 2
  | .moving => 3
  | .stopping => 4
  | .faulted => 5

/-- Link state codes (R179). -/
def LinkState.code : LinkState → Nat
  | .onLine => 0
  | .passive => 1
  | .busOff => 2

/-- Table codes (R179). -/
def TableId.code : TableId → Nat
  | .tiers => 0
  | .claims => 1
  | .waitList => 2
  | .holds => 3
  | .ceiling => 4
  | .mailboxes => 5

/-- The table a code names, if any (R171, R179). -/
def tableOfCode : Nat → Option TableId
  | 0 => some .tiers
  | 1 => some .claims
  | 2 => some .waitList
  | 3 => some .holds
  | 4 => some .ceiling
  | 5 => some .mailboxes
  | _ => none

/-- Kind codes (R179). -/
def Motion.kindCode : Motion → Nat
  | .slew _ _ => 1
  | .rake _ => 2
  | .both _ _ _ => 3

/-- Direction codes (R179). -/
def Dir.code : Dir → Nat
  | .cw => 0
  | .ccw => 1

/-- The direction a code names, if any (R179). -/
def dirOfCode : Nat → Option Dir
  | 0 => some .cw
  | 1 => some .ccw
  | _ => none

/-- The power pools (R92). -/
inductive PoolId where
  | hyd
  | slew
  deriving DecidableEq, Repr

/-- The pool a code names, if any (R95, R179). -/
def poolOfCode : Nat → Option PoolId
  | 0 => some .hyd
  | 1 => some .slew
  | _ => none

/-- The ten configuration fields, as WRITE_TIER and READ_TIER name them (R20, R21). -/
inductive CfgField where
  | enabled
  | halfWidth
  | wing
  | fold
  | slewDemand
  | rakeDemand
  | bestPriority
  | origin
  | mult
  | reverse
  deriving DecidableEq, Repr

/-- The configuration field a code names, if any (R179). -/
def cfgFieldOfCode : Nat → Option CfgField
  | 0x00 => some .enabled
  | 0x01 => some .halfWidth
  | 0x02 => some .wing
  | 0x03 => some .fold
  | 0x04 => some .slewDemand
  | 0x05 => some .rakeDemand
  | 0x06 => some .bestPriority
  | 0x07 => some .origin
  | 0x08 => some .mult
  | 0x09 => some .reverse
  | _ => none

/-- The runtime items READ_TIER accepts (R25). -/
inductive RuntimeItem where
  | restPose
  | standingArc
  | trackedPose
  | sequence
  | lease
  | faultKind
  | legQueue
  | tierState
  deriving DecidableEq, Repr

/-- The runtime item a code names, if any (R179). -/
def runtimeItemOfCode : Nat → Option RuntimeItem
  | 0x10 => some .restPose
  | 0x11 => some .standingArc
  | 0x12 => some .trackedPose
  | 0x13 => some .sequence
  | 0x14 => some .lease
  | 0x15 => some .faultKind
  | 0x16 => some .legQueue
  | 0x17 => some .tierState
  | _ => none

/-- The seven global motion parameters, as the commands name them (R23). -/
inductive GlobalParam where
  | margin
  | backoff
  | arrivalTol
  | rakeTol
  | creepLimit
  | stopMargin
  | leasePeriod
  deriving DecidableEq, Repr

/-- The global parameter a code names, if any (R179). -/
def globalParamOfCode : Nat → Option GlobalParam
  | 0 => some .margin
  | 1 => some .backoff
  | 2 => some .arrivalTol
  | 3 => some .rakeTol
  | 4 => some .creepLimit
  | 5 => some .stopMargin
  | 6 => some .leasePeriod
  | _ => none

/-- The codes of the 22 console commands (11.3.1). -/
def commandCodes : List Nat :=
  [0x01, 0x02, 0x03, 0x04, 0x05, 0x06, 0x07, 0x08, 0x10, 0x11, 0x12, 0x13, 0x14, 0x15, 0x16, 0x20, 0x21, 0x22,
    0x23, 0x24, 0x30, 0x31]

end Sys2Proof.Machine
end

