-- ==== Sys2Proof/Machine/Operands.lean ====
section
/-! DEFINITION. Reading and writing the fields of frames: byte order (R175), identifier classes (R153), the fields of the drive
frames (R176) and of the console's commands (R177), and the bytes of results (R178). -/

namespace Sys2Proof.Machine

/-! ### Bytes (R175) -/

/-- The value of one byte of a data field; a byte that is not there reads as 0, and no rule reads one. -/
def byteAt (d : List Byte) (i : Nat) : Nat :=
  (d.getD i 0).toNat

/-- A two-byte field, least significant byte first (R175). -/
def word16At (d : List Byte) (i : Nat) : Nat :=
  byteAt d i + 256 * byteAt d (i + 1)

/-- A four-byte field, least significant byte first (R175). -/
def word32At (d : List Byte) (i : Nat) : Nat :=
  word16At d i + 65536 * word16At d (i + 2)

/-- One result byte. -/
def u8 (n : Nat) : List Byte :=
  [BitVec.ofNat 8 n]

/-- Two result bytes, least significant first (R175). -/
def u16 (n : Nat) : List Byte :=
  [BitVec.ofNat 8 n, BitVec.ofNat 8 (n / 256)]

/-- Four result bytes, least significant first (R175). -/
def u32 (n : Nat) : List Byte :=
  u16 n ++ u16 (n / 65536)

/-- A flag as a bit value. -/
def bit (b : Bool) : Nat :=
  if b then 1 else 0

/-- Result bytes filled up with zeros to `n` bytes (R178). -/
def padTo (n : Nat) (l : List Byte) : List Byte :=
  l ++ List.replicate (n - l.length) 0

/-- `n` bytes of a number, least significant first. -/
def bytesOf : Nat → Nat → List Byte
  | 0, _ => []
  | n + 1, v => BitVec.ofNat 8 v :: bytesOf n (v / 256)

/-- The tier a tier-number argument names, if any (R177). -/
def tierOfNat (n : Nat) : Option TierNo :=
  if h : n < 24 then some ⟨n, h⟩ else none

/-- The slot a slot argument names, if any (R177). -/
def slotOfNat (n : Nat) : Option SlotNo :=
  if h : n < 4 then some ⟨n, h⟩ else none

/-- The hold entry an entry argument names, if any (R177). -/
def holdOfNat (n : Nat) : Option HoldNo :=
  if h : n < 8 then some ⟨n, h⟩ else none

/-- The number of a handle's mailbox: tier = index div 4, slot = index mod 4 (R57). -/
def handleIndex (h : Handle) : Fin 96 :=
  ⟨4 * h.tier.val + h.slot.val, by omega⟩

/-- The handle of a mailbox number (R57). -/
def handleOfIndex (i : Fin 96) : Handle :=
  ⟨⟨i.val / 4, by omega⟩, ⟨i.val % 4, by omega⟩⟩

/-! ### Machinery frames (R153, R176) -/

/-- The four classes that drives send (R153). -/
inductive MpClass where
  | report
  | claim
  | cancel
  | release
  deriving DecidableEq, Repr

/-- The class, tier and slot an identifier names among the four classes that drives send; a REPORT names no slot (R153). -/
def classify (ident : Nat) : Option (MpClass × Handle) :=
  if 0x080 ≤ ident ∧ ident ≤ 0x097 then some (.report, ⟨Fin.ofNat 24 (ident - 0x080), 0⟩)
  else if 0x200 ≤ ident ∧ ident ≤ 0x25F then some (.claim, handleOfIndex (Fin.ofNat 96 (ident - 0x200)))
  else if 0x280 ≤ ident ∧ ident ≤ 0x2DF then some (.cancel, handleOfIndex (Fin.ofNat 96 (ident - 0x280)))
  else if 0x300 ≤ ident ∧ ident ≤ 0x35F then some (.release, handleOfIndex (Fin.ofNat 96 (ident - 0x300)))
  else none

/-- The data length a class needs (11.1). -/
def MpClass.neededLength : MpClass → Nat
  | .report => 7
  | .claim => 7
  | .cancel => 0
  | .release => 6

/-- The slot a fault report takes from an identifier: none for a REPORT (R124). -/
def MpClass.faultSlot (c : MpClass) (h : Handle) : Option SlotNo :=
  match c with
  | .report => none
  | .claim => some h.slot
  | .cancel => some h.slot
  | .release => some h.slot

/-- The FIFO entry of an accepted frame: bytes beyond the needed length are not stored (R155, R156). -/
def mpEntryOf (c : MpClass) (h : Handle) (d : List Byte) : MpEntry :=
  match c with
  | .report => .report h.tier (d.take 7)
  | .claim => .claim h (d.take 7)
  | .cancel => .cancel h
  | .release => .release h (d.take 6)

/-- The tier of a FIFO entry (R156). -/
def MpEntry.tier : MpEntry → TierNo
  | .report t _ => t
  | .claim h _ => h.tier
  | .cancel h => h.tier
  | .release h _ => h.tier

/-- The fields of a REPORT (11.1). -/
structure ReportFields where
  encoder : Nat
  rake : Nat
  seq : Nat
  moving : Bool
  driveFault : Bool
  deriving DecidableEq, Repr

/-- Reading a REPORT's bytes (R176). -/
def reportFields (d : List Byte) : ReportFields :=
  { encoder := word32At d 0
    rake := word16At d 4
    seq := byteAt d 6 % 16
    moving := byteAt d 6 / 16 % 2 == 1
    driveFault := byteAt d 6 / 32 % 2 == 1 }

/-- The motion a CLAIM's bytes name, or none where check 3 of R44 fails on the kind, the direction or the target rake.
A field the kind does not use is not checked (R44, R176). -/
def claimMotion (d : List Byte) : Option Motion :=
  match byteAt d 0 with
  | 1 => (dirOfCode (byteAt d 1)).map fun dir => .slew dir (word16At d 2)
  | 2 => if word16At d 4 ≤ 450 then some (.rake (word16At d 4)) else none
  | 3 =>
    if word16At d 4 ≤ 450 then (dirOfCode (byteAt d 1)).map fun dir => .both dir (word16At d 2) (word16At d 4)
    else none
  | _ => none

/-- The declared priority of a CLAIM (11.1). -/
def claimPriority (d : List Byte) : Nat :=
  byteAt d 6

/-! ### NOTICE frames (R153, R176) -/

/-- The identifier of a handle's NOTICE (R153). -/
def noticeIdent (h : Handle) : Nat :=
  0x100 + 4 * h.tier.val + h.slot.val

/-- The NOTICE frame on the link: flexible-data-rate format with bit-rate switch, 8 bytes (R152, R176). -/
def NoticeTx.frame (n : NoticeTx) : Frame :=
  { format := .fdSwitch, extended := false, remote := false, ident := noticeIdent n.handle,
    data := padTo 8 (u8 n.state.code ++ u8 n.result.code) }

/-! ### Console frames (R166, R177, R178) -/

/-- The tag of a command: byte 0, or 0 if the data field was empty (R166). -/
def CpEntry.tag (e : CpEntry) : Byte :=
  e.data.getD 0 0

/-- The command code: byte 1 (R166). -/
def CpEntry.code (e : CpEntry) : Nat :=
  byteAt e.data 1

/-- Checks 1 and 2 of R166 pass: 16 bytes and a defined code. -/
def CpEntry.isKnown (e : CpEntry) : Bool :=
  16 ≤ e.length && commandCodes.contains e.code

/-- What a command's own rule answers: a status and the bytes from bit 4 of byte 1 on (R178). -/
structure Answer where
  status : Status
  /-- Bits 4 to 7 of byte 1 (11.3.3). -/
  high : Nat
  results : List Byte
  deriving DecidableEq, Repr

/-- An answer with result bytes from byte 2, filled up to a 16-byte reply (R178). -/
def Answer.of (st : Status) (results : List Byte) : Answer :=
  { status := st, high := 0, results := padTo 14 results }

/-- A refusal: every result byte is 0 (R178). -/
def Answer.refuse (st : Status) : Answer :=
  .of st []

/-- The reply to a command with the tag it carried (R166). -/
def Answer.reply (a : Answer) (tag : Byte) : Reply :=
  { tag := tag, status := a.status, high := a.high, results := a.results }

/-- The data field of a reply: tag, status and high bits, results (11.2). -/
def Reply.data (r : Reply) : List Byte :=
  r.tag :: BitVec.ofNat 8 (r.status.code + 16 * r.high) :: r.results

/-- The reply frame on the link (R164, R167). -/
def Reply.frame (r : Reply) : Frame :=
  { format := .fdSwitch, extended := false, remote := false, ident := 0x011, data := r.data }

/-- The attention bits as a byte, FAULT in bit 0 (11.3.1). -/
def AttentionBits.toNat (b : AttentionBits) : Nat :=
  bit b.fault + 2 * bit b.hard + 4 * bit b.second + 8 * bit b.halt + 16 * bit b.stopline + 32 * bit b.overdrawn +
    64 * bit b.tierFault

/-- The attention bits of a byte; bit 7 is ignored (R174, 11.3.1). -/
def attentionOfNat (n : Nat) : AttentionBits :=
  { fault := n % 2 == 1, hard := n / 2 % 2 == 1, second := n / 4 % 2 == 1, halt := n / 8 % 2 == 1,
    stopline := n / 16 % 2 == 1, overdrawn := n / 32 % 2 == 1, tierFault := n / 64 % 2 == 1 }

end Sys2Proof.Machine
end

