-- ==== Sys2Proof/Machine/Ring.lean ====
section
/-! DEFINITION. Ring geometry and footprint arithmetic (chapter 1): every formula the part computes. Positions, rakes and
lengths are natural numbers; every product and quotient is exact before the rounding its rule states (0.5.1). -/

namespace Sys2Proof.Machine

/-! ### Positions (R1) -/

/-- The forward distance from `a` to `b` (R1). -/
def forward (a b : Nat) : Nat :=
  (b + (65536 - a % 65536)) % 65536

/-- The position `a + d`, mod 65536 (R1). -/
def ringAdd (a d : Nat) : Nat :=
  (a + d) % 65536

/-- The position `a - d`, mod 65536 (R1). -/
def ringSub (a d : Nat) : Nat :=
  (a + (65536 - d % 65536)) % 65536

/-- The signed difference of `b` from `a` (R1). -/
def signedDiff (a b : Nat) : Int :=
  if forward a b < 32768 then forward a b else (forward a b : Int) - 65536

/-- The absolute difference of `a` and `b` (R1). -/
def absDiff (a b : Nat) : Nat :=
  (signedDiff a b).natAbs

/-! ### Arcs (R2, R3) -/

/-- Two arcs overlap (R2). -/
def Arc.overlaps (a b : Arc) : Bool :=
  forward a.start b.start < a.length || forward b.start a.start < b.length

/-- `f` lies within `a` (R3). -/
def Arc.within (f a : Arc) : Bool :=
  forward a.start f.start + f.length ≤ a.length

/-- What a hazard arc stands for: an arc, or the marker of the whole ring (R19). -/
inductive Hazard where
  | arc (a : Arc)
  | wholeRing
  deriving DecidableEq, Repr

/-- The hazard arc around a space record, with the stop margin (R19). -/
def hazardArc (margin : Nat) (a : Arc) : Hazard :=
  if a.length + 2 * margin ≤ 65535 then .arc ⟨ringSub a.start margin, a.length + 2 * margin⟩ else .wholeRing

/-- Overlap with a hazard arc; the whole-ring marker overlaps every arc (R2). -/
def Hazard.overlaps (h : Hazard) (a : Arc) : Bool :=
  match h with
  | .arc b => b.overlaps a
  | .wholeRing => true

/-! ### Sectors and the Ceiling Profile (R4, R7) -/

/-- The first sector an arc touches (R4). -/
def Arc.firstSector (a : Arc) : Nat :=
  a.start / 256

/-- How many sectors an arc touches (R4). -/
def Arc.sectorCount (a : Arc) : Nat :=
  min 256 ((a.start % 256 + a.length - 1) / 256 + 1)

/-- The sectors an arc touches, in order, modulo 256 (R4). -/
def Arc.sectors (a : Arc) : List (Fin 256) :=
  (List.range a.sectorCount).map fun k => Fin.ofNat 256 (a.firstSector + k)

/-- The ceiling over an arc: the smallest Ceiling Profile entry among the sectors it touches (R7). -/
def ceilingOver (ceilings : Vector Nat 256) (a : Arc) : Nat :=
  a.sectors.foldl (fun m k => min m ceilings[k]) ceilings[Fin.ofNat 256 a.firstSector]

/-! ### Reported poses (R8, R9) -/

/-- The ring position of encoder value `e` under a tier's ring map (R8). -/
def ringPosition (cfg : TierConfig) (e : Nat) : Nat :=
  let u := (e + (2 ^ 32 - cfg.origin % 2 ^ 32)) % 2 ^ 32
  let p := u * cfg.mult / 65536 % 65536
  if cfg.reverse then (65536 - p) % 65536 else p

/-- The rake taken from a reported rake (R9). -/
def clampRake (r : Nat) : Nat :=
  min r 450

/-- The pose of a REPORT or RELEASE after conversion and clamping (R8, R9). -/
def reportedPose (cfg : TierConfig) (e rake : Nat) : Pose :=
  ⟨ringPosition cfg e, clampRake rake⟩

/-! ### Footprints (R10, R11) -/

/-- The wing widening at a rake, rounded up (R10). -/
def wingWidening (cfg : TierConfig) (r : Nat) : Nat :=
  if r ≤ cfg.fold then 0 else (cfg.wing * (r - cfg.fold) + (450 - cfg.fold) - 1) / (450 - cfg.fold)

/-- The footprint half-width h(r) (R11). -/
def halfWidthAt (cfg : TierConfig) (g : Globals) (r : Nat) : Nat :=
  cfg.halfWidth + g.margin + wingWidening cfg r

/-- The footprint at a pose (R11). -/
def footprint (cfg : TierConfig) (g : Globals) (p : Pose) : Arc :=
  ⟨ringSub p.pos (halfWidthAt cfg g p.rake), 2 * halfWidthAt cfg g p.rake⟩

/-! ### Admission geometry (R12 to R15) -/

/-- The slew distance D from origin position `p0` (R12). -/
def slewDistance (m : Motion) (p0 : Nat) : Nat :=
  match m with
  | .slew .cw p1 => forward p0 p1
  | .slew .ccw p1 => forward p1 p0
  | .both .cw p1 _ => forward p0 p1
  | .both .ccw p1 _ => forward p1 p0
  | .rake _ => 0

/-- A claim is out of reach when it would travel more than half the ring (R12). -/
def outOfReach (d : Nat) : Bool :=
  32767 < d

/-- The target rake of a claim from origin rake `r0`; a SLEW claim's is taken to be `r0` (1.7). -/
def targetRakeFrom (m : Motion) (r0 : Nat) : Nat :=
  match m with
  | .slew _ _ => r0
  | .rake t => t
  | .both _ _ t => t

/-- The envelope low of a claim from origin rake `r0` (R13). -/
def envelopeLo (m : Motion) (r0 : Nat) : Nat :=
  min r0 (targetRakeFrom m r0)

/-- The envelope high of a claim from origin rake `r0` (R13). -/
def envelopeHi (m : Motion) (r0 : Nat) : Nat :=
  max r0 (targetRakeFrom m r0)

/-- The sweep width hmax of a claim with envelope high `hi` (R13). -/
def sweepWidth (cfg : TierConfig) (g : Globals) (hi : Nat) : Nat :=
  halfWidthAt cfg g (min (hi + g.rakeTol) 450)

/-- The start of the claim arc (R14). -/
def claimArcStart (m : Motion) (p0 d w : Nat) : Nat :=
  match m with
  | .slew .cw _ => ringSub p0 w
  | .slew .ccw _ => ringSub p0 (d + w)
  | .both .cw _ _ => ringSub p0 w
  | .both .ccw _ _ => ringSub p0 (d + w)
  | .rake _ => ringSub p0 w

/-- The admission geometry of a claim (1.7). -/
structure Geometry where
  /-- The slew distance D. -/
  dist : Nat
  lo : Nat
  hi : Nat
  arc : Arc
  deriving DecidableEq, Repr

/-- The admission geometry from origin pose `o` (R12 to R14). -/
def admissionGeometry (cfg : TierConfig) (g : Globals) (m : Motion) (o : Pose) : Geometry :=
  let d := slewDistance m o.pos
  let hi := envelopeHi m o.rake
  let w := sweepWidth cfg g hi
  { dist := d, lo := envelopeLo m o.rake, hi := hi, arc := ⟨claimArcStart m o.pos d w, d + 2 * w⟩ }

/-- The ceiling check (R15). -/
def ceilingCheck (ceilings : Vector Nat 256) (geo : Geometry) : Bool :=
  geo.hi ≤ ceilingOver ceilings geo.arc

/-! ### Supervision tests (R16 to R18) -/

/-- The rake check of containment (R16). -/
def rakeCheck (g : Globals) (lo hi r : Nat) : Bool :=
  lo - g.rakeTol ≤ r && r ≤ min 450 (hi + g.rakeTol)

/-- The position check of containment (R16). -/
def positionCheck (cfg : TierConfig) (g : Globals) (arc : Arc) (p : Pose) : Bool :=
  (footprint cfg g p).within arc

/-- A pose is contained in a grant (R16). -/
def contained (cfg : TierConfig) (g : Globals) (gr : Grant) (p : Pose) : Bool :=
  rakeCheck g gr.lo gr.hi p.rake && positionCheck cfg g gr.arc p

/-- A clockwise claim's arc after the trim at position `p` (R17). -/
def trimCw (g : Globals) (arc : Arc) (w p : Nat) : Arc :=
  let s' := ringSub p (w + g.backoff)
  let k := forward arc.start s'
  if 1 ≤ k ∧ k ≤ 32767 then ⟨s', arc.length - k⟩ else arc

/-- A counter-clockwise claim's arc after the trim at position `p` (R17). -/
def trimCcw (g : Globals) (arc : Arc) (w p : Nat) : Arc :=
  let e := ringAdd arc.start arc.length
  let e' := ringAdd p (w + g.backoff)
  let k := forward e' e
  if 1 ≤ k ∧ k ≤ 32767 then ⟨arc.start, arc.length - k⟩ else arc

/-- The claim arc after the trim at position `p` (R17); a RAKE claim is never trimmed. -/
def trimmedArc (cfg : TierConfig) (g : Globals) (m : Motion) (gr : Grant) (p : Nat) : Arc :=
  match m with
  | .slew .cw _ => trimCw g gr.arc (sweepWidth cfg g gr.hi) p
  | .slew .ccw _ => trimCcw g gr.arc (sweepWidth cfg g gr.hi) p
  | .both .cw _ _ => trimCw g gr.arc (sweepWidth cfg g gr.hi) p
  | .both .ccw _ _ => trimCcw g gr.arc (sweepWidth cfg g gr.hi) p
  | .rake _ => gr.arc

/-- The creep test of a reported position against the rest position (R18). -/
def creepTest (g : Globals) (rest p : Nat) : Bool :=
  absDiff p rest ≤ g.creepLimit

/-- The arrival position test (R18). -/
def arrivalPosition (g : Globals) (target p : Nat) : Bool :=
  absDiff p target ≤ g.arrivalTol

/-- The arrival rake test; R18 measures rakes by the absolute difference of R1. -/
def arrivalRake (g : Globals) (target r : Nat) : Bool :=
  absDiff r target ≤ g.rakeTol

/-- The arrival tests that a claim's kind has (R18). -/
def arrivalTests (g : Globals) (m : Motion) (p : Pose) : Bool :=
  match m with
  | .slew _ t => arrivalPosition g t p.pos
  | .rake r => arrivalRake g r p.rake
  | .both _ t r => arrivalPosition g t p.pos && arrivalRake g r p.rake

end Sys2Proof.Machine
end

