-- ==== Sys2Proof/Machine/Access.lean ====
section
/-! DEFINITION. Reading and writing single items of State, and what the spec derives from them: a handle's record, a tier's
head and active claim, tier state, space record, projected pose. -/

namespace Sys2Proof.Machine

/-! ### Single items -/

/-- A tier record. -/
def State.tier (s : State) (t : TierNo) : Tier :=
  s.tiers[t]

/-- Writing a tier record. -/
def State.setTier (s : State) (t : TierNo) (r : Tier) : State :=
  { s with tiers := s.tiers.set t r }

/-- A claim record; `none` is FREE. -/
def State.record (s : State) (i : RecNo) : Option Claim :=
  s.records[i]

/-- Writing a claim record. -/
def State.setRecord (s : State) (i : RecNo) (c : Option Claim) : State :=
  { s with records := s.records.set i c }

/-- The mailbox of a handle. -/
def State.mailbox (s : State) (h : Handle) : Mailbox :=
  s.mailboxes[handleIndex h]

/-- Storing a mailbox whole. -/
def State.setMailbox (s : State) (h : Handle) (m : Mailbox) : State :=
  { s with mailboxes := s.mailboxes.set (handleIndex h) m }

/-- A PERMIT line. -/
def State.permitLine (s : State) (t : TierNo) : Bool :=
  s.permit[t]

/-- Driving a PERMIT line (R162). -/
def State.setPermit (s : State) (t : TierNo) (b : Bool) : State :=
  { s with permit := s.permit.set t b }

/-- A hold entry; `none` is free. -/
def State.hold (s : State) (k : HoldNo) : Option Arc :=
  s.holds[k]

/-- Writing a hold entry. -/
def State.setHold (s : State) (k : HoldNo) (a : Option Arc) : State :=
  { s with holds := s.holds.set k a }

/-- A record's member mark (R63). -/
def State.marked (s : State) (i : RecNo) : Bool :=
  s.scan.marks[i]

/-- Clearing a record's member mark (R63). -/
def State.unmark (s : State) (i : RecNo) : State :=
  { s with scan := { s.scan with marks := s.scan.marks.set i false } }

/-- A power pool. -/
def State.pool (s : State) (p : PoolId) : Pool :=
  match p with
  | .hyd => s.hyd
  | .slew => s.slew

/-- Writing a power pool. -/
def State.setPool (s : State) (p : PoolId) (v : Pool) : State :=
  match p with
  | .hyd => { s with hyd := v }
  | .slew => { s with slew := v }

/-! ### Claims -/

/-- The state of a claim (R40). -/
def Claim.state (c : Claim) : ClaimState :=
  match c.phase with
  | .waiting => .waiting
  | .granted _ => .granted
  | .stopping _ => .stopping
  | .frozen _ => .frozen

/-- The result of a bound record: QUEUED in WAITING, GRANTED otherwise (R40, R178). -/
def Claim.result (c : Claim) : Result :=
  match c.phase with
  | .waiting => .queued
  | .granted _ => .granted
  | .stopping _ => .granted
  | .frozen _ => .granted

/-- The fields from grant, present when the claim is not WAITING (R40). -/
def Claim.grant? (c : Claim) : Option Grant :=
  match c.phase with
  | .waiting => none
  | .granted g => some g
  | .stopping g => some g
  | .frozen g => some g

/-- The claim is WAITING. -/
def Claim.isWaiting (c : Claim) : Bool :=
  c.state == .waiting

/-- The claim is GRANTED. -/
def Claim.isGranted (c : Claim) : Bool :=
  c.state == .granted

/-- The claim is active: GRANTED, STOPPING or FROZEN (R42). -/
def Claim.isActive (c : Claim) : Bool :=
  !c.isWaiting

/-- The record bound to a handle, if the handle is occupied (R39). -/
def State.boundTo (s : State) (h : Handle) : Option RecNo :=
  (List.finRange 64).find? fun i => (s.record i).any fun c => c.handle == h

/-- The record bound to a handle, with its contents. -/
def State.claimAt (s : State) (h : Handle) : Option (RecNo × Claim) :=
  match s.boundTo h with
  | none => none
  | some i => (s.record i).map fun c => (i, c)

/-- The lowest-numbered FREE record (R39). -/
def State.lowestFree (s : State) : Option RecNo :=
  (List.finRange 64).find? fun i => (s.record i).isNone

/-! ### Tiers -/

/-- The placed flag (R26, R27). -/
def Tier.placed (r : Tier) : Bool :=
  r.standing.isSome

/-- The head claim of a tier's leg queue (R32). -/
def State.headClaim (s : State) (t : TierNo) : Option (RecNo × Claim) :=
  match (s.tier t).legs with
  | [] => none
  | k :: _ => s.claimAt ⟨t, k⟩

/-- The tier's active claim: its head claim while that is GRANTED, STOPPING or FROZEN (R32). -/
def State.activeClaim (s : State) (t : TierNo) : Option (RecNo × Claim) :=
  match s.headClaim t with
  | none => none
  | some (i, c) => if c.isActive then some (i, c) else none

/-- The slot of the tier's active claim, if it has one. -/
def State.activeSlot (s : State) (t : TierNo) : Option SlotNo :=
  (s.activeClaim t).map fun x => x.2.handle.slot

/-- The state of the tier's head claim; none while its leg queue is empty. -/
def State.headState (s : State) (t : TierNo) : Option ClaimState :=
  (s.headClaim t).map fun x => x.2.state

/-- The state of a tier, from its fields; the first row of R35 that holds. -/
def State.tierState (s : State) (t : TierNo) : TierState :=
  if !(s.tier t).cfg.enabled then .disabled
  else if !(s.tier t).placed then .unplaced
  else if (s.tier t).fault.isSome then .faulted
  else if s.headState t = some .stopping then .stopping
  else if s.headState t = some .granted then .moving
  else .idle

/-- The arc a tier occupies while it has an active claim: that claim's arc as held, trims included. -/
def State.activeArc (s : State) (t : TierNo) : Option Arc :=
  match s.activeClaim t with
  | none => none
  | some (_, c) => c.grant?.map fun g => g.arc

/-- The space record of an enabled, placed tier: its active claim's arc, or else its standing arc (R34). -/
def State.spaceRecord (s : State) (t : TierNo) : Option Arc :=
  if (s.tier t).cfg.enabled && (s.tier t).placed then
    match s.activeArc t with
    | some a => some a
    | none => (s.tier t).standing
  else none

/-- An arc overlaps no space record of a tier other than `t` (R71, R140). -/
def State.clearOfOthers (s : State) (t : TierNo) (a : Arc) : Bool :=
  (List.finRange 24).all fun u => u == t || !(s.spaceRecord u).any a.overlaps

/-- The pose a claim's completion leaves, from its own record (R33). -/
def Claim.targetPose (c : Claim) : Pose :=
  match c.motion with
  | .slew _ p => ⟨p, c.origin.rake⟩
  | .rake r => ⟨c.origin.pos, r⟩
  | .both _ p r => ⟨p, r⟩

/-- The projected pose of a tier: its rest pose while its leg queue is empty, the tail claim's target pose otherwise (R33).
DESIGN CHOICE (assumption log 22): a FROZEN tail claim leaves the rest pose, as R128 says, where R33 read alone gives
that claim's target pose. -/
def State.projectedPose (s : State) (t : TierNo) : Pose :=
  match (s.tier t).legs.getLast? with
  | none => (s.tier t).rest
  | some k =>
    match s.claimAt ⟨t, k⟩ with
    | none => (s.tier t).rest
    | some (_, c) => if c.state = .frozen then (s.tier t).rest else c.targetPose

end Sys2Proof.Machine
end

