-- ==== Sys2Proof/Machine/Flags.lean ====
section
/-! DEFINITION. The Attention Unit: the conditions of its seven flags (R173) and its ATTN line (R174). -/

namespace Sys2Proof.Machine

/-- The hard kinds (R123). -/
def FaultKind.isHard : FaultKind → Bool
  | .tier _ => true
  | .hallStop => true
  | .seqGap => false
  | .rakeClamp => false
  | .shortArrival => false
  | .protocol => false
  | .rxLost => false

/-- A pool is OVERDRAWN while its committed total is above its capacity (R97). -/
def Pool.overdrawn (p : Pool) : Bool :=
  p.capacity < p.committed

/-- Some tier is FAULTED (R35, R173). -/
def State.anyFaulted (s : State) : Bool :=
  (List.finRange 24).any fun t => s.tierState t == .faulted

/-- The seven attention conditions as they stand (R173). -/
def State.conditions (s : State) : AttentionBits :=
  { fault := s.capture.isSome
    hard := s.capture.any fun r => r.kind.isHard
    second := s.second
    halt := s.mode == .halt
    stopline := s.stopnLow
    overdrawn := s.hyd.overdrawn || s.slew.overdrawn
    tierFault := s.anyFaulted }

/-- At least one flag is set whose enable is on (R174). -/
def AttentionBits.raises (flags enables : AttentionBits) : Bool :=
  flags.fault && enables.fault || flags.hard && enables.hard || flags.second && enables.second ||
    flags.halt && enables.halt || flags.stopline && enables.stopline || flags.overdrawn && enables.overdrawn ||
    flags.tierFault && enables.tierFault

/-- ATTN follows the flags and the enables (R174). -/
def State.driveAttn (s : State) : State :=
  { s with attn := s.flags.raises s.enables }

/-- The attention flags follow their conditions, and ATTN the enabled flags, at the event that changes them
(R173, R174; assumption log 15). -/
def State.settle (s : State) : State :=
  { s with flags := s.conditions, attn := s.conditions.raises s.enables }

end Sys2Proof.Machine
end

