-- ==== Sys2Proof/Machine/Ops.lean ====
section
/-! DEFINITION. The operations the events share: mailbox writes, fault reports, scan requests, stops, freezes, retirements, the
tier hard-fault event, a port's error counts, and the execution of a console command. -/

namespace Sys2Proof.Machine

/-- While RESETN is low every block is held at its power-on values: no frame is taken from either link, none is sent,
and no other event acts on a block (R143). -/
def State.powered (s : State) (f : State → State) : State :=
  if s.resetHeld then s else f s

/-! ### Mailboxes (R54, R55) -/

/-- Writing a mailbox's state and result; the write sets it pending (R55). -/
def State.post (s : State) (h : Handle) (st : ClaimState) (r : Result) : State :=
  s.setMailbox h ⟨st, r, true⟩

/-- Setting a mailbox pending with its contents unchanged (R55). -/
def State.repend (s : State) (h : Handle) : State :=
  s.setMailbox h { s.mailbox h with pending := true }

/-! ### Fault reports (R124, R135) -/

/-- A fault report reaches the Fault Capture, which adds the mode (R124) and applies its latching rule (R135). -/
def State.raise (s : State) (k : FaultKind) (t : Option TierNo) (slot : Option SlotNo) (pose : Option Pose) : State :=
  match s.capture with
  | none => { s with capture := some ⟨k, t, slot, pose, s.mode⟩ }
  | some r =>
    if r.kind.isHard then (if k.isHard then { s with second := true } else s)
    else if k.isHard then { s with capture := some ⟨k, t, slot, pose, s.mode⟩ }
    else s

/-! ### The admission scan (R64 to R68) -/

/-- The scan state returns to its idle values (R66, R68). -/
def State.endScan (s : State) : State :=
  { s with scan := Scan.idle }

/-- A scan starts: every record in the wait list is marked and the shadows are empty (R65). With no record in the
wait list it ends at the same event (R65, R66). -/
def State.startScan (s : State) : State :=
  if s.waitList.isEmpty then s.endScan
  else
    { s with
      scan := { running := true, rescan := false, marks := Vector.ofFn fun i => s.waitList.contains i, shadows := [],
                hydShadow := false, slewShadow := false } }

/-- The Admission Engine takes a scan request (R64). -/
def State.requestScan (s : State) : State :=
  match s.mode with
  | .run => if s.scan.running then { s with scan := { s.scan with rescan := true } } else s.startScan
  | .config => s
  | .halt => s

/-- Some record in the wait list has its member mark set. -/
def State.membersLeft (s : State) : Bool :=
  s.waitList.any s.marked

/-- A scan ends at an event after which no record in the wait list is marked; a rescan that is pending starts at
the same event if the mode is RUN (R66). -/
def State.closeScan (s : State) : State :=
  if s.scan.running && !s.membersLeft then
    (if s.mode = .run ∧ s.scan.rescan = true then s.startScan else s.endScan)
  else s

/-- The scan requests of one event act as one (R141; assumption log 5); the end of a scan follows (R66). -/
def State.rescan (s : State) : State :=
  s.requestScan.closeScan

/-! ### Leaving the table (R52, R53) -/

/-- A record becomes FREE: it leaves the wait list, loses its member mark (R63), its slot leaves the leg queue (R32),
and its mailbox shows FREE and the result (R55). -/
def State.unbind (s : State) (i : RecNo) (h : Handle) (r : Result) : State :=
  let s := (s.setRecord i none).unmark i
  let s := { s with waitList := s.waitList.filter fun j => j != i }
  let s := s.setTier h.tier { s.tier h.tier with legs := (s.tier h.tier).legs.filter fun k => k != h.slot }
  s.post h .free r

/-- The retirement of a WAITING claim, but for the scan request it sends (R52). -/
def State.retireWaiting (s : State) (i : RecNo) (r : Result) : State :=
  match s.record i with
  | none => s
  | some c => if c.isWaiting then s.unbind i c.handle r else s

/-- Every WAITING claim that `p` picks retires, at one event. -/
def State.retireWaitingWhere (s : State) (p : Claim → Bool) (r : Result) : State :=
  (List.finRange 64).foldl (fun s i => if (s.record i).any p then s.retireWaiting i r else s) s

/-- Some WAITING claim is picked by `p`. -/
def State.anyWaiting (s : State) (p : Claim → Bool) : Bool :=
  (List.finRange 64).any fun i => (s.record i).any fun c => c.isWaiting && p c

/-- The lease stops: countdown 0, running clear (R112). -/
def State.stopLease (s : State) (t : TierNo) : State :=
  s.setTier t { s.tier t with lease := 0, leaseRunning := false }

/-- The rest pose, the standing arc and the tracked pose are set, and the placed and have-pose flags (R26 to R28). -/
def State.placeAt (s : State) (t : TierNo) (p : Pose) (a : Arc) : State :=
  s.setTier t { s.tier t with rest := p, standing := some a, tracked := p, havePose := true }

/-- The Pool Meter draws a grant's demands (R93). -/
def State.drawPools (s : State) (g : Grant) : State :=
  { s with
    hyd := { s.hyd with committed := s.hyd.committed + g.hydDraw }
    slew := { s.slew with committed := s.slew.committed + g.slewDraw } }

/-- The Pool Meter takes back the demands a claim drew (R94). -/
def State.returnPools (s : State) (g : Grant) : State :=
  { s with
    hyd := { s.hyd with committed := s.hyd.committed - g.hydDraw }
    slew := { s.slew with committed := s.slew.committed - g.slewDraw } }

/-- The retirement of an active claim at a new rest pose and standing arc, but for the scan request (R53). -/
def State.retireActive (s : State) (i : RecNo) (h : Handle) (g : Grant) (r : Result) (p : Pose) (a : Arc) : State :=
  ((((s.returnPools g).setPermit h.tier false).stopLease h.tier).placeAt h.tier p a).unbind i h r

/-! ### Stops and freezes (R47, R48) -/

/-- A stop of the claim in a record, if it is GRANTED (R47). -/
def State.stopRecord (s : State) (i : RecNo) : State :=
  match s.record i with
  | none => s
  | some c =>
    match c.phase with
    | .granted g =>
      ((s.setRecord i (some { c with phase := .stopping g })).setPermit c.handle.tier false).post c.handle .stopping
        .granted
    | .waiting => s
    | .stopping _ => s
    | .frozen _ => s

/-- Every GRANTED claim that `p` picks by its handle and arc is stopped, at one event. -/
def State.stopWhere (s : State) (p : Handle → Arc → Bool) : State :=
  (List.finRange 64).foldl
    (fun s i => if (s.record i).any fun c => (c.grant?.any fun g => p c.handle g.arc) then s.stopRecord i else s) s

/-- The freeze of a tier's head claim, if it is GRANTED or STOPPING (R48). -/
def State.freezeWith (s : State) (i : RecNo) (c : Claim) (g : Grant) : State :=
  (((s.setRecord i (some { c with phase := .frozen g })).setPermit c.handle.tier false).stopLease c.handle.tier).post
    c.handle .frozen .granted

/-- The freeze of a tier's head claim, if it is GRANTED or STOPPING (R48). -/
def State.freezeHead (s : State) (t : TierNo) : State :=
  match s.headClaim t with
  | none => s
  | some (i, c) =>
    match c.phase with
    | .granted g => s.freezeWith i c g
    | .stopping g => s.freezeWith i c g
    | .waiting => s
    | .frozen _ => s

/-! ### The tier hard-fault event (R127 to R130) -/

/-- The hazard stop: the GRANTED claims of other tiers whose arcs overlap the hazard arc are stopped (R129). -/
def State.hazardStop (s : State) (t : TierNo) (z : Hazard) : State :=
  s.stopWhere fun h a => h.tier != t && z.overlaps a

/-- The hazard stop around a space record, if the tier has one (R129). -/
def State.hazardStopAround (s : State) (t : TierNo) (space : Option Arc) : State :=
  match space with
  | none => s
  | some a => s.hazardStop t (hazardArc s.globals.stopMargin a)

/-- The tier hard-fault event of a tier whose fault kind is none (R127): the fault kind, the freeze (R48), the
retirements TIER_FAULT (R128), the hazard stop around the space record (R129), and the scan request of the
retirements (R128). -/
def State.hardFaultEvent (s : State) (t : TierNo) (k : HardKind) : State :=
  let mine : Claim → Bool := fun c => c.handle.tier == t
  let s1 := s.setTier t { s.tier t with fault := some k }
  let s2 := (s1.freezeHead t).retireWaitingWhere mine .tierFault
  let s3 := s2.hazardStopAround t (s.spaceRecord t)
  if s.anyWaiting mine then s3.rescan else s3

/-- A per-tier hard fault: its report reaches the Fault Capture, and the tier hard-fault event is taken unless the
tier's fault kind is already set (R127, R130). -/
def State.hardFault (s : State) (t : TierNo) (k : HardKind) (slot : Option SlotNo) (p : Pose) : State :=
  let s1 := s.raise (.tier k) (some t) slot (some p)
  if (s.tier t).fault.isNone then s1.hardFaultEvent t k else s1

/-! ### Ports (R158, R159, R164) -/

/-- The link state after a change of the counts (R158). -/
def Port.relink (p : Port) : Port :=
  { p with
    link :=
      if 256 ≤ p.txErrors then .busOff
      else if 128 ≤ p.txErrors ∨ 128 ≤ p.rxErrors then .passive
      else .onLine }

/-- A frame received without error lowers the receive error count (R158). -/
def Port.received (p : Port) : Port :=
  { p with rxErrors := p.rxErrors - 1 }.relink

/-- A detected receive error raises the receive error count to at most 255 (R158); in BUS-OFF the port receives
nothing (R159). -/
def Port.receiveError (p : Port) : Port :=
  if p.link = .busOff then p else { p with rxErrors := min 255 (p.rxErrors + 1) }.relink

/-- A completed transmission lowers the transmit error count (R158). -/
def Port.sent (p : Port) : Port :=
  { p with txErrors := p.txErrors - 1 }.relink

/-- The transmit error count rises by 8, to at most 256 (R158). -/
def Port.sendError (p : Port) : Port :=
  { p with txErrors := min 256 (p.txErrors + 8) }.relink

/-- A failed transmission: lost arbitration is no error, and a missing acknowledgement counts in ON-LINE only (R158). -/
def Port.sendFailed (p : Port) (why : TxFailure) : Port :=
  match why with
  | .lostArbitration => p
  | .error .acknowledgement => if p.link = .onLine then p.sendError else p
  | .error .bit => p.sendError
  | .error .stuff => p.sendError
  | .error .crc => p.sendError
  | .error .form => p.sendError

/-- Recovery from BUS-OFF: both counts 0, ON-LINE (R159). -/
def Port.recover (p : Port) : Port :=
  if p.link = .busOff then { p with txErrors := 0, rxErrors := 0, link := .onLine } else p

/-! ### Console commands (R166) -/

/-- A reply is placed at the tail of the reply FIFO (R166). -/
def State.reply (s : State) (r : Reply) : State :=
  { s with replies := s.replies ++ [r] }

/-- The execution of the oldest entry, if `due` says that it is this event's command and the reply FIFO has room: the
entry leaves, the command is carried out, its reply is placed (R166, R168). Otherwise the event is not due and
nothing happens (assumption log 2). -/
def State.executeIf (s : State) (due : CpEntry → Bool) (run : CpEntry → State → State × Answer) : State :=
  match s.cpFifo with
  | [] => s
  | e :: rest =>
    if s.replies.length < 16 && due e then
      let r := run e { s with cpFifo := rest }
      r.1.reply (r.2.reply e.tag)
    else s

/-- The execution of the oldest entry when it is a command frame of at least 16 bytes with this code (R166). -/
def State.execute (s : State) (code : Nat) (run : CpEntry → State → State × Answer) : State :=
  s.executeIf (fun e => 16 ≤ e.length && e.code == code) run

end Sys2Proof.Machine
end

