-- ==== Sys2Proof/Machine/Admission.lean ====
section
/-! DEFINITION. The visits of an admission scan: eligibility, evaluation, grant (chapter 4). -/

namespace Sys2Proof.Machine

/-- A WAITING claim is eligible: the mode is RUN, its slot is the head of its tier's leg queue, and the tier is IDLE
(R62). -/
def State.eligible (s : State) (c : Claim) : Bool :=
  s.mode == .run && (s.tier c.handle.tier).legs.head? == some c.handle.slot && s.tierState c.handle.tier == .idle

/-- The space test (R71): other tiers' space records, occupied holds, the shadow set. -/
def State.spaceTest (s : State) (t : TierNo) (a : Arc) : Bool :=
  s.clearOfOthers t a && (List.finRange 8).all (fun k => !(s.hold k).any a.overlaps) &&
    s.scan.shadows.all fun b => !a.overlaps b

/-- The SLEW demand a claim would draw (R73). -/
def slewDemandOf (cfg : TierConfig) (geo : Geometry) : Nat :=
  if 0 < geo.dist then cfg.slewDemand else 0

/-- The HYD demand a claim would draw (R73). -/
def hydDemandOf (cfg : TierConfig) (geo : Geometry) : Nat :=
  if geo.lo < geo.hi then cfg.rakeDemand else 0

/-- One pool admits a demand: it is not drawn on, or it is not shadowed and has room (R73). -/
def Pool.admits (p : Pool) (shadowed : Bool) (demand : Nat) : Bool :=
  demand == 0 || (!shadowed && p.committed + demand ≤ p.capacity)

/-- The pool test (R73). -/
def State.poolTest (s : State) (g : Grant) : Bool :=
  s.hyd.admits s.scan.hydShadow g.hydDraw && s.slew.admits s.scan.slewShadow g.slewDraw

/-- The fields from grant, as this evaluation computes them (R75). -/
def grantOf (cfg : TierConfig) (geo : Geometry) : Grant :=
  { arc := geo.arc, lo := geo.lo, hi := geo.hi, slewDraw := slewDemandOf cfg geo, hydDraw := hydDemandOf cfg geo }

/-- A claim left WAITING after a failed space test casts its arc (R74). -/
def State.castShadow (s : State) (a : Arc) : State :=
  { s with scan := { s.scan with shadows := s.scan.shadows ++ [a] } }

/-- After a failed pool test every pool the claim draws on is shadowed too (R74). -/
def State.shadowPools (s : State) (g : Grant) : State :=
  { s with
    scan := { s.scan with
              hydShadow := s.scan.hydShadow || 0 < g.hydDraw
              slewShadow := s.scan.slewShadow || 0 < g.slewDraw } }

/-- The lease countdown is loaded and set running (R76). -/
def State.loadLease (s : State) (t : TierNo) : State :=
  s.setTier t { s.tier t with lease := s.globals.leasePeriod, leaseRunning := true }

/-- The grant of a claim (R75, R76). -/
def State.grant (s : State) (i : RecNo) (c : Claim) (g : Grant) : State :=
  let s1 := (s.setRecord i (some { c with phase := .granted g })).unmark i
  let s2 := { s1 with waitList := s1.waitList.filter fun j => j != i }
  (((s2.drawPools g).loadLease c.handle.tier).setPermit c.handle.tier true).post c.handle .granted .granted

/-- Space test, then pool test, then grant (R71 to R75). -/
def State.decideClaim (s : State) (i : RecNo) (c : Claim) (g : Grant) : State :=
  if !s.spaceTest c.handle.tier g.arc then s.castShadow g.arc
  else if !s.poolTest g then (s.castShadow g.arc).shadowPools g
  else s.grant i c g

/-- The evaluation of an eligible claim, from the tier's rest pose (R69, R70). A retirement sends a scan request. -/
def State.evaluate (s : State) (i : RecNo) (c : Claim) : State :=
  let cfg := (s.tier c.handle.tier).cfg
  let geo := admissionGeometry cfg s.globals c.motion (s.tier c.handle.tier).rest
  if outOfReach geo.dist then (s.retireWaiting i .origin).requestScan
  else if !ceilingCheck s.ceilings geo then (s.retireWaiting i .ceiling).requestScan
  else s.decideClaim i c (grantOf cfg geo)

/-- Steps 2 to 4 of R67 on the first marked record of the wait list. -/
def State.visitRecord (s : State) (i : RecNo) : State :=
  match (s.unmark i).record i with
  | none => s.unmark i
  | some c => if (s.unmark i).eligible c then (s.unmark i).evaluate i c else s.unmark i

/-- A visit of the running scan (R67). With no scan running no visit is due (assumption log 2). -/
def State.visit (s : State) : State :=
  if !s.scan.running then s
  else if s.mode != .run then s.endScan
  else
    match s.waitList.find? s.marked with
    | none => s.closeScan
    | some i => (s.visitRecord i).closeScan.settle

/-- VISIT (R67). -/
def execVisit (s : State) : Host.Outcome State Fault Refusal :=
  .next (s.powered State.visit)

end Sys2Proof.Machine
end

