-- ==== Sys2Proof/Machine/ClaimEvents.lean ====
section
/-! DEFINITION. CLAIM and CANCEL frames at the Claim Store (3.3, 3.5). -/

namespace Sys2Proof.Machine

/-! ### CLAIM (R43 to R46) -/

/-- Inserting a record into the wait list after every entry of equal or more urgent priority and ahead of every less
urgent one (R60). -/
def State.waitInsert (s : State) (i : RecNo) (p : Nat) : List RecNo :=
  let urgent : RecNo → Bool := fun j => (s.record j).any fun c => c.priority ≤ p
  s.waitList.takeWhile urgent ++ i :: s.waitList.dropWhile urgent

/-- A CLAIM is refused: the mailbox shows FREE and the refusal, pending, and nothing else changes (R46). -/
def State.refuseClaim (s : State) (h : Handle) (r : Result) : State :=
  s.post h .free r

/-- A CLAIM is accepted into a FREE record (R45); its scan request follows. -/
def State.acceptClaim (s : State) (h : Handle) (m : Motion) (declared : Nat) (i : RecNo) : State :=
  let p := max declared (s.tier h.tier).cfg.bestPriority
  let c : Claim := { handle := h, motion := m, priority := p, origin := s.projectedPose h.tier, phase := .waiting }
  let s1 := { s.setRecord i (some c) with waitList := s.waitInsert i p }
  let s2 := s1.setTier h.tier { s1.tier h.tier with legs := (s1.tier h.tier).legs ++ [h.slot] }
  (s2.post h .waiting .queued).rescan

/-- Checks 4 to 6 of R44: reach, ceiling, record. -/
def State.checkClaim (s : State) (h : Handle) (m : Motion) (declared : Nat) : State :=
  let geo := admissionGeometry (s.tier h.tier).cfg s.globals m (s.projectedPose h.tier)
  if outOfReach geo.dist then s.refuseClaim h .refusedRange
  else if !ceilingCheck s.ceilings geo then s.refuseClaim h .refusedCeiling
  else
    match s.lowestFree with
    | none => s.refuseClaim h .refusedFull
    | some i => s.acceptClaim h m declared i

/-- The arrival of a CLAIM with these data bytes at the Claim Store (R43, R44). -/
def State.arriveClaim (s : State) (h : Handle) (d : List Byte) : State :=
  if (s.boundTo h).isSome then (s.raise .protocol (some h.tier) (some h.slot) none).settle
  else if s.mode = .config then s.refuseClaim h .refusedMode
  else if s.tierState h.tier = .unplaced ∨ s.tierState h.tier = .faulted then s.refuseClaim h .refusedTier
  else
    match claimMotion d with
    | none => s.refuseClaim h .refusedRange
    | some m => if 7 < claimPriority d then s.refuseClaim h .refusedRange else s.checkClaim h m (claimPriority d)

/-- The Claim Store takes the oldest FIFO entry, if it is a CLAIM of an enabled tier (R157). -/
def State.takeClaim (s : State) : State :=
  match s.mpFifo with
  | .claim h d :: rest => if (s.tier h.tier).cfg.enabled then { s with mpFifo := rest }.arriveClaim h d else s
  | _ => s

/-- CLAIM (R43). -/
def execClaim (s : State) : Host.Outcome State Fault Refusal :=
  .next (s.powered State.takeClaim)

/-! ### CANCEL (R50) -/

/-- A drive's CANCEL of a handle, by the state of its record (R50). -/
def State.cancelHandle (s : State) (h : Handle) : State :=
  match s.claimAt h with
  | none => (s.raise .protocol (some h.tier) (some h.slot) none).settle
  | some (i, c) =>
    match c.phase with
    | .waiting => (s.retireWaiting i .cancelled).rescan
    | .granted _ => s.stopRecord i
    | .stopping _ => s.repend h
    | .frozen _ => s.repend h

/-- The Claim Store takes the oldest FIFO entry, if it is a CANCEL of an enabled tier (R157). -/
def State.takeCancel (s : State) : State :=
  match s.mpFifo with
  | .cancel h :: rest => if (s.tier h.tier).cfg.enabled then { s with mpFifo := rest }.cancelHandle h else s
  | _ => s

/-- CANCEL (R50). -/
def execCancel (s : State) : Host.Outcome State Fault Refusal :=
  .next (s.powered State.takeCancel)

end Sys2Proof.Machine
end

