-- ==== Sys2Proof/Machine/ConsolePort.lean ====
section
/-! DEFINITION. The CP port: command frames arriving, errors and BUS-OFF, replies, unknown commands (10.1, 10.2). -/

namespace Sys2Proof.Machine

/-- The identifier of command frames (R164). -/
def commandIdent : Nat := 0x010

/-- A command frame joins the inbound FIFO or is dropped with RX_LOST (R165). -/
def State.cpAccept (s : State) (d : List Byte) : State :=
  if s.cpFifo.length < 16 then { s with cpFifo := s.cpFifo ++ [⟨d.take 16, d.length⟩] }
  else (s.raise .rxLost none none none).settle

/-- The arrival of a frame received without error on the console link (R164): in BUS-OFF it is not seen; a frame that
is no command frame is ignored without record. -/
def State.cpArrival (s : State) (f : Frame) : State :=
  if s.cpPort.link = .busOff then s
  else
    let s1 := { s with cpPort := s.cpPort.received }
    if f.ident = commandIdent ∧ f.extended = false ∧ f.remote = false then s1.cpAccept f.data else s1

/-- CP_COMMAND_ARRIVAL (R165). -/
def execCpCommandArrival (f : Frame) (s : State) : Host.Outcome State Fault Refusal :=
  .next (s.powered fun s => s.cpArrival f)

/-- CP_RECEIVE_ERROR (R164). -/
def execCpReceiveError (s : State) : Host.Outcome State Fault Refusal :=
  .next (s.powered fun s => { s with cpPort := s.cpPort.receiveError })

/-- CP_BUS_OFF_RECOVERY (R164). -/
def execCpBusOffRecovery (s : State) : Host.Outcome State Fault Refusal :=
  .next (s.powered fun s => { s with cpPort := s.cpPort.recover })

/-- The start of a reply transmission, of the oldest reply; it is due when the port is not in BUS-OFF, sends nothing
and holds a reply (R167). It is an event of its own, after the one at which it falls due (assumption log 23). -/
def State.replyStart (s : State) : State :=
  if s.cpPort.link = .busOff ∨ s.cpTx.isSome then s
  else
    match s.replies with
    | [] => s
    | r :: _ => { s with cpTx := some r }

/-- REPLY_START (R167). -/
def execReplyStart (s : State) : Host.Outcome State Fault Refusal :=
  .next (s.powered State.replyStart)

/-- A reply completes: it leaves the reply FIFO and the transmit error count is lowered (R167). DESIGN CHOICE (assumption
log 24): a command that waited for room is not executed within this event (R168); its execution is an event of its own
(R166), and other events may be taken between the two. -/
def State.replyComplete (s : State) : State :=
  match s.cpTx with
  | none => s
  | some _ => { s with cpTx := none, replies := s.replies.tail, cpPort := s.cpPort.sent }

/-- REPLY_COMPLETION (R167). -/
def execReplyCompletion (s : State) : Host.Outcome State Fault Refusal :=
  .next (s.powered State.replyComplete)

/-- A reply fails: it stays at the head of the reply FIFO, and the counts move by R158 (R167). -/
def State.replyFail (s : State) (why : TxFailure) : State :=
  match s.cpTx with
  | none => s
  | some _ => { s with cpTx := none, cpPort := s.cpPort.sendFailed why }

/-- REPLY_FAILURE (R167). -/
def execReplyFailure (why : TxFailure) (s : State) : Host.Outcome State Fault Refusal :=
  .next (s.powered fun s => s.replyFail why)

/-- A frame that is too short or has an undefined code: no effect, status UNKNOWN (R166). -/
def doUnknown (_e : CpEntry) (s : State) : State × Answer :=
  (s, .refuse .unknown)

/-- UNKNOWN_COMMAND (R166). -/
def execUnknownCommand (s : State) : Host.Outcome State Fault Refusal :=
  .next (s.powered fun s => s.executeIf (fun e => !e.isKnown) doUnknown)

end Sys2Proof.Machine
end

