-- ==== Sys2Proof/Machine/CursorCommands.lean ====
section
/-! DEFINITION. SET_CURSOR and READ_NEXT, with the entries of the six tables (R171, R172, 11.3.3). -/

namespace Sys2Proof.Machine

/-! ### SET_CURSOR (R171) -/

/-- The last index SET_CURSOR takes for a table (R172). -/
def TableId.lastIndex : TableId → Nat
  | .tiers => 23
  | .claims => 63
  | .waitList => 63
  | .holds => 7
  | .ceiling => 255
  | .mailboxes => 95

/-- SET_CURSOR (R171). -/
def doSetCursor (e : CpEntry) (s : State) : State × Answer :=
  match tableOfCode (byteAt e.data 2) with
  | none => (s, .refuse .range)
  | some t =>
    let i := word16At e.data 3
    if t.lastIndex < i then (s, .refuse .range)
    else ({ s with cursor := ⟨t, i⟩ }, .of .ok (u8 t.code ++ u16 i))

/-- SET_CURSOR (R171). -/
def execSetCursor (s : State) : Host.Outcome State Fault Refusal :=
  .next (s.powered fun s => s.execute 0x30 doSetCursor)

/-! ### Entries (11.3.3) -/

/-- Fields packed one after another, each least significant bit first: (width, value) pairs. -/
def packBits : List (Nat × Nat) → Nat
  | [] => 0
  | (w, v) :: rest => v % 2 ^ w + 2 ^ w * packBits rest

/-- The direction of a motion as a code; absent is 0 (R178). -/
def Motion.dirCode : Motion → Nat
  | .slew d _ => d.code
  | .rake _ => 0
  | .both d _ _ => d.code

/-- The target position of a motion; absent is 0 (R178). -/
def Motion.targetPosition : Motion → Nat
  | .slew _ p => p
  | .rake _ => 0
  | .both _ p _ => p

/-- The target rake of a motion; absent is 0 (R178). -/
def Motion.targetRake : Motion → Nat
  | .slew _ _ => 0
  | .rake r => r
  | .both _ _ r => r

/-- The fields from grant, all 0 while the claim is WAITING (R178). -/
def grantFields (g : Option Grant) : List (Nat × Nat) :=
  match g with
  | none => [(16, 0), (16, 0), (9, 0), (9, 0), (1, 0), (1, 0)]
  | some g =>
    [(16, g.arc.start), (16, g.arc.length), (9, g.lo), (9, g.hi), (1, bit (decide (0 < g.slewDraw))),
      (1, bit (decide (0 < g.hydDraw)))]

/-- The 124 bits of a claim-record entry; a FREE record carries only its number (R57, 11.3.3). -/
def claimEntryBits (i : RecNo) (c : Option Claim) : Nat :=
  match c with
  | none => packBits [(3, ClaimState.free.code), (6, i.val)]
  | some c =>
    packBits
      ([(3, c.state.code), (6, i.val), (5, c.handle.tier.val), (2, c.handle.slot.val), (2, c.motion.kindCode),
          (1, c.motion.dirCode), (3, c.priority), (16, c.motion.targetPosition), (9, c.motion.targetRake),
          (16, c.origin.pos), (9, c.origin.rake)] ++
        grantFields c.grant?)

/-- A claim-record entry in a reply of 20 bytes: bits 4 to 7 of byte 1, then bytes 2 to 16, then zeros (11.3.3). -/
def claimAnswer (i : RecNo) (c : Option Claim) : Answer :=
  { status := .ok, high := claimEntryBits i c % 16, results := bytesOf 18 (claimEntryBits i c / 16) }

/-- A tiers entry (R172, 11.3.3). -/
def State.tierEntry (s : State) (t : TierNo) : List Byte :=
  let r := s.tier t
  let arc := r.standing.getD ⟨0, 0⟩
  u8 t.val ++ u8 ((s.tierState t).code + 8 * faultKindCode r.fault) ++
    u8 (bit r.placed + 2 * bit r.standing.isSome + 4 * bit r.leaseRunning + 8 * r.legs.length) ++
    u8 (packBits (r.legs.map fun k => (2, k.val))) ++ u8 r.lease ++ u16 r.rest.pos ++ u16 r.rest.rake ++
    u16 arc.start ++ u16 arc.length

/-- A wait-list entry: position, record, handle, effective priority (R61, 11.3.3). -/
def State.waitEntry (s : State) (pos : Nat) (i : RecNo) : List Byte :=
  match s.record i with
  | none => u8 pos ++ u8 i.val
  | some c => u8 pos ++ u8 i.val ++ u8 c.handle.tier.val ++ u8 c.handle.slot.val ++ u8 c.priority

/-- A hold entry (R91, 11.3.3). -/
def State.holdEntry (s : State) (k : HoldNo) : List Byte :=
  match s.hold k with
  | none => u8 k.val
  | some a => u8 k.val ++ u8 1 ++ u16 a.start ++ u16 a.length

/-- How many sectors a ceiling entry at an index carries: 6, or 256 minus the index where that is less (R172). -/
def ceilingStep (i : Nat) : Nat :=
  min 6 (256 - i)

/-- A ceiling entry: first sector, count, that many entries (R172, 11.3.3). -/
def State.ceilingEntry (s : State) (i : Nat) : List Byte :=
  u8 i ++ u8 (ceilingStep i) ++ (List.range (ceilingStep i)).flatMap fun k => u16 s.ceilings[Fin.ofNat 256 (i + k)]

/-- A mailbox entry (R57, 11.3.3). -/
def State.mailboxEntry (s : State) (i : Fin 96) : List Byte :=
  let h := handleOfIndex i
  let m := s.mailbox h
  u8 h.tier.val ++ u8 h.slot.val ++ u8 m.state.code ++ u8 m.result.code ++ u8 (bit m.pending)

/-- The entry under the cursor with the step by which the cursor advances; none past the end of the table (R172). -/
def State.entryAt (s : State) (c : Cursor) : Option (Answer × Nat) :=
  match c.table with
  | .tiers => if h : c.index < 24 then some (.of .ok (s.tierEntry ⟨c.index, h⟩), 1) else none
  | .claims => if h : c.index < 64 then some (claimAnswer ⟨c.index, h⟩ (s.record ⟨c.index, h⟩), 1) else none
  | .waitList =>
    match s.waitList[c.index]? with
    | none => none
    | some i => some (.of .ok (s.waitEntry c.index i), 1)
  | .holds => if h : c.index < 8 then some (.of .ok (s.holdEntry ⟨c.index, h⟩), 1) else none
  | .ceiling => if c.index < 256 then some (.of .ok (s.ceilingEntry c.index), ceilingStep c.index) else none
  | .mailboxes => if h : c.index < 96 then some (.of .ok (s.mailboxEntry ⟨c.index, h⟩), 1) else none

/-- READ_NEXT: the entry, and the cursor moves on; past the end END with the table and index, and the cursor stays
(R172, R178). -/
def doReadNext (_e : CpEntry) (s : State) : State × Answer :=
  match s.entryAt s.cursor with
  | none => (s, .of .ended (u8 s.cursor.table.code ++ u16 s.cursor.index))
  | some (a, step) => ({ s with cursor := { s.cursor with index := s.cursor.index + step } }, a)

/-- READ_NEXT (R172). -/
def execReadNext (s : State) : Host.Outcome State Fault Refusal :=
  .next (s.powered fun s => s.execute 0x31 doReadNext)

end Sys2Proof.Machine
end

