-- ==== Sys2Proof/Machine/HallCommands.lean ====
section
/-! DEFINITION. SET_POOL, PLACE_HOLD, LIFT_HOLD, CANCEL_CLAIM (chapters 3 and 5). -/

namespace Sys2Proof.Machine

/-! ### SET_POOL (R95, R96) -/

/-- The capacity is set; a raise sends a scan request (R95, R96). -/
def State.setCapacity (s : State) (p : PoolId) (v : Nat) : State :=
  let s1 := s.setPool p { s.pool p with capacity := v }
  if (s.pool p).capacity < v then s1.rescan.settle else s1.settle

/-- SET_POOL (R95). -/
def doSetPool (e : CpEntry) (s : State) : State × Answer :=
  match poolOfCode (byteAt e.data 2) with
  | none => (s, .refuse .range)
  | some p =>
    let v := word32At e.data 3
    let w := min v 4095
    (s.setCapacity p w,
      .of (if v ≤ 4095 then .ok else .clamped) (u8 (byteAt e.data 2) ++ u16 w ++ u16 (s.pool p).committed))

/-- SET_POOL (R95). -/
def execSetPool (s : State) : Host.Outcome State Fault Refusal :=
  .next (s.powered fun s => s.execute 0x20 doSetPool)

/-! ### PLACE_HOLD and LIFT_HOLD (R87, R88, R90) -/

/-- The lowest-numbered free hold entry (R87). -/
def State.lowestFreeHold (s : State) : Option HoldNo :=
  (List.finRange 8).find? fun k => (s.hold k).isNone

/-- The entry becomes occupied, and each GRANTED claim whose arc overlaps the hold is stopped (R87, R88). -/
def State.placeHold (s : State) (k : HoldNo) (a : Arc) : State :=
  (s.setHold k (some a)).stopWhere fun _ b => a.overlaps b

/-- PLACE_HOLD (R87). -/
def doPlaceHold (e : CpEntry) (s : State) : State × Answer :=
  match s.lowestFreeHold with
  | none => (s, .refuse .full)
  | some k =>
    let st := word32At e.data 2
    let len := word32At e.data 6
    let a : Arc := ⟨min st 65535, max 1 (min len 65535)⟩
    (s.placeHold k a,
      .of (if st ≤ 65535 ∧ 1 ≤ len ∧ len ≤ 65535 then .ok else .clamped)
        (u8 k.val ++ u16 a.start ++ u16 a.length))

/-- PLACE_HOLD (R87). -/
def execPlaceHold (s : State) : Host.Outcome State Fault Refusal :=
  .next (s.powered fun s => s.execute 0x21 doPlaceHold)

/-- LIFT_HOLD (R90). -/
def doLiftHold (e : CpEntry) (s : State) : State × Answer :=
  match holdOfNat (byteAt e.data 2) with
  | none => (s, .refuse .range)
  | some k =>
    if (s.hold k).isNone then (s, .refuse .notActive)
    else ((s.setHold k none).rescan, .of .ok (u8 k.val))

/-- LIFT_HOLD (R90). -/
def execLiftHold (s : State) : Host.Outcome State Fault Refusal :=
  .next (s.powered fun s => s.execute 0x22 doLiftHold)

/-! ### CANCEL_CLAIM (R51) -/

/-- CANCEL_CLAIM of a handle: the effect and the claim state after it, or none for a vacant handle (R51). -/
def State.revoke (s : State) (h : Handle) : Option (State × ClaimState) :=
  match s.claimAt h with
  | none => none
  | some (i, c) =>
    match c.phase with
    | .waiting => some ((s.retireWaiting i .revoked).rescan, .free)
    | .granted _ => some (s.stopRecord i, .stopping)
    | .stopping _ => some (s, .stopping)
    | .frozen _ => some (s, .frozen)

/-- CANCEL_CLAIM (R51). -/
def doCancelClaim (e : CpEntry) (s : State) : State × Answer :=
  match tierOfNat (byteAt e.data 2), slotOfNat (byteAt e.data 3) with
  | none, _ => (s, .refuse .range)
  | some _, none => (s, .refuse .range)
  | some t, some k =>
    match s.revoke ⟨t, k⟩ with
    | none => (s, .refuse .notActive)
    | some (s', st) => (s', .of .ok (u8 t.val ++ u8 k.val ++ u8 st.code))

/-- CANCEL_CLAIM (R51). -/
def execCancelClaim (s : State) : Host.Outcome State Fault Refusal :=
  .next (s.powered fun s => s.execute 0x23 doCancelClaim)

end Sys2Proof.Machine
end

