-- ==== Sys2Proof/Machine/Lease.lean ====
section
/-! DEFINITION. The lease: ticks and expiries (6.3). -/

namespace Sys2Proof.Machine

/-- A tick lowers a running countdown by 1 (R113). -/
def Tier.tick (r : Tier) : Tier :=
  if r.leaseRunning then { r with lease := r.lease - 1 } else r

/-- Every running countdown is lowered by 1 (R113). -/
def State.lowerLeases (s : State) : State :=
  { s with tiers := s.tiers.map Tier.tick }

/-- A running countdown has been brought to 0: the tick is that lease's expiry (R113). DESIGN CHOICE (assumption log 21):
this holds with lease period 1 too, also where a REPORT reloaded the countdown since the tick before, although R115
says that no expiry follows such a REPORT. -/
def Tier.expired (r : Tier) : Bool :=
  r.leaseRunning && r.lease == 0

/-- The expiry of a tier's lease: the hard fault LEASE with the active claim's slot and the tracked pose; the lease
stops, with countdown 0 and running clear (R114). -/
def State.expire (s : State) (t : TierNo) : State :=
  (s.hardFault t .lease (s.activeSlot t) (s.tier t).tracked).stopLease t

/-- The expiry of a tier's lease, if it is at one. -/
def State.expireIfDue (s : State) (t : TierNo) : State :=
  if (s.tier t).expired then s.expire t else s

/-- One tick: every running countdown is lowered, and each that reaches 0 expires at the tick, each expiry a fault event
of its own (R113, R114). Those of the tiers in `order` are taken first, in that order (assumption log 4). With lease period
1 the first tick after a load or reload is the expiry (assumption log 21). -/
def State.tickAll (s : State) (order : List TierNo) : State :=
  ((order ++ List.finRange 24).foldl State.expireIfDue s.lowerLeases).settle

/-- TICK (R113). -/
def execTick (order : List TierNo) (s : State) : Host.Outcome State Fault Refusal :=
  .next (s.powered fun s => s.tickAll order)

/-- A tick's expiry of one tier, as an event of its own: it falls due when the lease runs and a tick brings its
countdown to 0, that is from 1 (R113, R114). The countdown is lowered with it. -/
def State.leaseExpiry (s : State) (t : TierNo) : State :=
  if (s.tier t).leaseRunning && (s.tier t).lease ≤ 1 then
    ((s.setTier t { s.tier t with lease := 0 }).expire t).settle
  else s

/-- LEASE_EXPIRY (R114). -/
def execLeaseExpiry (t : TierNo) (s : State) : Host.Outcome State Fault Refusal :=
  .next (s.powered fun s => s.leaseExpiry t)

end Sys2Proof.Machine
end

