-- ==== Sys2Proof/Machine/Lines.lean ====
section
/-! DEFINITION. Events of the lines and of Mode Control's entry to HALT: power-on reset, the rising edge of RESETN, STOPN (chapter 8). -/

namespace Sys2Proof.Machine

/-- Every block at its power-on values, with the straps the ports hold and the level of STOPN; the queue is not the
part's and is kept (R143). STOPLINE is set if STOPN is low (R173). -/
def State.powerOnValues (s : State) (straps : StrapPins) (stopnLow : Bool) : State :=
  { State.reset with
    stopnLow := stopnLow
    mpPort := Port.powerOn straps.mp
    cpPort := Port.powerOn straps.cp
    flags := { AttentionBits.clear with stopline := stopnLow }
    pending := s.pending }

/-- The straps both ports hold. -/
def State.straps (s : State) : StrapPins :=
  ⟨s.mpPort.straps, s.cpPort.straps⟩

/-- A power-on reset: power-up samples the straps, a low level on RESETN does not; the part is then held, with ATTN
low, until the rising edge of RESETN (R143, R152, R164, R174). -/
def State.powerOnReset (s : State) (cause : ResetCause) (stopnLow : Bool) : State :=
  match cause with
  | .powerUp straps => { s.powerOnValues straps stopnLow with resetHeld := true, attn := false }
  | .resetnLow => { s.powerOnValues s.straps stopnLow with resetHeld := true, attn := false }

/-- POWER_ON_RESET (R143). -/
def execPowerOnReset (cause : ResetCause) (stopnLow : Bool) (s : State) : Host.Outcome State Fault Refusal :=
  .next (s.powerOnReset cause stopnLow)

/-- The rising edge of RESETN: the part starts in CONFIG at its power-on values, both ports sample their straps, and
STOPN is sampled as a level for STOPLINE (R143, R152, R164); ATTN then follows R174. -/
def State.resetnRise (s : State) (straps : StrapPins) (stopnLow : Bool) : State :=
  (s.powerOnValues straps stopnLow).driveAttn

/-- RESETN_RISING_EDGE (R143). -/
def execResetnRisingEdge (straps : StrapPins) (stopnLow : Bool) (s : State) : Host.Outcome State Fault Refusal :=
  .next (s.resetnRise straps stopnLow)

/-- Entry to HALT: the mode becomes HALT and every GRANTED claim is stopped (R147). -/
def State.enterHalt (s : State) : State :=
  { s with mode := .halt }.stopWhere fun _ _ => true

/-- An assertion of STOPN (R148): STOPLINE is set; in RUN the part enters HALT; in RUN and HALT the fault HALL_STOP is
raised, with the mode before the assertion (R126). -/
def State.stopnAssert (s : State) : State :=
  let s1 := { s with stopnLow := true }
  match s.mode with
  | .config => s1.settle
  | .run => (s1.raise .hallStop none none none).enterHalt.settle
  | .halt => (s1.raise .hallStop none none none).settle

/-- STOPN_ASSERTION (R148). -/
def execStopnAssertion (s : State) : Host.Outcome State Fault Refusal :=
  .next (s.powered State.stopnAssert)

/-- A release of STOPN raises no fault and changes no mode (R148). -/
def State.stopnRise (s : State) : State :=
  { s with stopnLow := false }.settle

/-- STOPN_RELEASE (R148). -/
def execStopnRelease (s : State) : Host.Outcome State Fault Refusal :=
  .next (s.powered State.stopnRise)

end Sys2Proof.Machine
end

