-- ==== Sys2Proof/Config.lean ====
section
/-! DEFINITION. What the spec leaves open about one part: constants with no body, so that nothing can be proved of their value. -/

namespace Sys2Proof

/-- Whether a frame that the MP acceptance filter does not pass lowers the receive error count.
R154 says such a frame "changes no counter"; R158 lowers the count whenever the port "receives a frame without error".
The two disagree on this point and no rule settles it, so the answer is free (assumption log 6). -/
opaque Config.filteredFrameLowersCount : Bool

end Sys2Proof
end

