-- ==== Sys2Proof/Machine/MachineryPort.lean ====
section
/-! DEFINITION. The MP port: frames arriving, the inbound FIFO, errors and BUS-OFF, and the sending of NOTICEs (chapter 9). -/

namespace Sys2Proof.Machine

/-! ### Rates (0.7) -/

/-- The nominal bit rate, in kbit/s, that a strap selects (0.7). -/
def RateStraps.nominalRate (r : RateStraps) : Nat :=
  if r.nominal then 1000 else 500

/-- The data bit rate, in kbit/s, that a strap selects (0.7). -/
def RateStraps.dataBitRate (r : RateStraps) : Nat :=
  if r.dataRate then 4000 else 2000

/-! ### Receiving (R154 to R156) -/

/-- The port has received a frame without error (R158). -/
def State.mpReceived (s : State) : State :=
  { s with mpPort := s.mpPort.received }

/-- A frame that passes the filter is length-checked and joins the FIFO, or raises PROTOCOL or RX_LOST (R155, R156). -/
def State.mpAccept (s : State) (c : MpClass) (h : Handle) (d : List Byte) : State :=
  if d.length < c.neededLength then (s.raise .protocol (some h.tier) (c.faultSlot h) none).settle
  else if s.mpFifo.length < 16 then { s with mpFifo := s.mpFifo ++ [mpEntryOf c h d] }
  else (s.raise .rxLost (some h.tier) none none).settle

/-- A frame that the filter does not pass is ignored without record (R154). Whether it lowers the receive error count
is left open by R154 and R158 (assumption log 6). -/
def State.mpIgnore (s : State) : State :=
  if Config.filteredFrameLowersCount then s.mpReceived else s

/-- The acceptance filter passes a frame whose identifier is in a class that drives send and names an enabled tier
(R154). -/
def State.mpPasses (s : State) (ident : Nat) : Option (MpClass × Handle) :=
  match classify ident with
  | none => none
  | some (c, h) => if (s.tier h.tier).cfg.enabled then some (c, h) else none

/-- The arrival of a frame received without error (R152, R154). In BUS-OFF it is not seen (R159). A frame with a
29-bit identifier and a remote request frame are received and then ignored without record (R152). -/
def State.mpArrival (s : State) (f : Frame) : State :=
  if s.mpPort.link = .busOff then s
  else if f.extended || f.remote then s.mpReceived
  else
    match s.mpPasses f.ident with
    | none => s.mpIgnore
    | some (c, h) => s.mpReceived.mpAccept c h f.data

/-- MP_FRAME_ARRIVAL (R154). -/
def execMpFrameArrival (f : Frame) (s : State) : Host.Outcome State Fault Refusal :=
  .next (s.powered fun s => s.mpArrival f)

/-- MP_RECEIVE_ERROR (R158). -/
def execMpReceiveError (s : State) : Host.Outcome State Fault Refusal :=
  .next (s.powered fun s => { s with mpPort := s.mpPort.receiveError })

/-- BUS_OFF_RECOVERY (R159). -/
def execBusOffRecovery (s : State) : Host.Outcome State Fault Refusal :=
  .next (s.powered fun s => { s with mpPort := s.mpPort.recover })

/-- An entry whose tier is not enabled when it is taken is discarded without record (R157). -/
def State.discardDisabled (s : State) : State :=
  match s.mpFifo with
  | [] => s
  | e :: rest => if (s.tier e.tier).cfg.enabled then s else { s with mpFifo := rest }

/-- DISABLED_ENTRY_DISCARD (R157). -/
def execDisabledEntryDiscard (s : State) : Host.Outcome State Fault Refusal :=
  .next (s.powered State.discardDisabled)

/-! ### Sending NOTICEs (R160, R161) -/

/-- The pending mailbox whose NOTICE identifier is lowest, that is the lowest mailbox number (R160). -/
def State.lowestPending (s : State) : Option (Fin 96) :=
  (List.finRange 96).find? fun i => s.mailboxes[i].pending

/-- A selection and the start of its transmission: the contents are copied and the pending flag is cleared (R160,
R161). It is due when the port is not in BUS-OFF, sends nothing, and a mailbox is pending. DESIGN CHOICE (assumption log
23): it is an event of its own, after the one at which it falls due, so other events may be taken between the two. -/
def State.noticeStart (s : State) : State :=
  if s.mpPort.link = .busOff ∨ s.mpTx.isSome then s
  else
    match s.lowestPending with
    | none => s
    | some i =>
      let h := handleOfIndex i
      let m := s.mailbox h
      { s.setMailbox h { m with pending := false } with mpTx := some ⟨h, m.state, m.result⟩ }

/-- NOTICE_START (R160). -/
def execNoticeStart (s : State) : Host.Outcome State Fault Refusal :=
  .next (s.powered State.noticeStart)

/-- A NOTICE completes (R161): the transmit error count is lowered (R158). -/
def State.noticeComplete (s : State) : State :=
  match s.mpTx with
  | none => s
  | some _ => { s with mpTx := none, mpPort := s.mpPort.sent }

/-- NOTICE_COMPLETION (R161). -/
def execNoticeCompletion (s : State) : Host.Outcome State Fault Refusal :=
  .next (s.powered State.noticeComplete)

/-- A NOTICE fails (R161): its mailbox is set pending, whatever it holds; the counts move by R158, and at 256 the port
enters BUS-OFF (R159). -/
def State.noticeFail (s : State) (why : TxFailure) : State :=
  match s.mpTx with
  | none => s
  | some n => { s.repend n.handle with mpTx := none, mpPort := s.mpPort.sendFailed why }

/-- NOTICE_FAILURE (R161). -/
def execNoticeFailure (why : TxFailure) (s : State) : Host.Outcome State Fault Refusal :=
  .next (s.powered fun s => s.noticeFail why)

end Sys2Proof.Machine
end

