-- ==== Sys2Proof/Machine/ModeCommands.lean ====
section
/-! DEFINITION. SET_MODE, HALT, RESUME, SOFT_RESET (chapter 8). -/

namespace Sys2Proof.Machine

/-! ### RUN-entry validation (R145) -/

/-- The pairs of tiers in order of the lower tier number, then of the higher (R145). -/
def tierPairs : List (TierNo × TierNo) :=
  (List.finRange 24).flatMap fun a => ((List.finRange 24).filter fun b => a < b).map fun b => (a, b)

/-- Check 1: the lowest enabled tier that is not placed (R145). -/
def State.firstUnplaced (s : State) : Option TierNo :=
  (List.finRange 24).find? fun t => (s.tier t).cfg.enabled && !(s.tier t).placed

/-- The standing arcs of two enabled tiers overlap (R145). -/
def State.standingOverlap (s : State) (a b : TierNo) : Bool :=
  (s.tier a).cfg.enabled && (s.tier b).cfg.enabled &&
    (s.tier a).standing.any fun x => (s.tier b).standing.any fun y => x.overlaps y

/-- Check 2: the first pair of enabled tiers whose standing arcs overlap (R145). -/
def State.firstOverlap (s : State) : Option (TierNo × TierNo) :=
  tierPairs.find? fun p => s.standingOverlap p.1 p.2

/-- Check 3: the lowest enabled tier whose rest rake is above the ceiling over its standing arc (R145). -/
def State.firstTooHigh (s : State) : Option TierNo :=
  (List.finRange 24).find? fun t =>
    (s.tier t).cfg.enabled && (s.tier t).standing.any fun a => ceilingOver s.ceilings a < (s.tier t).rest.rake

/-- RUN-entry validation: the refusal of the first check that fails, with the tier numbers R178 gives; none if all
three pass (R145). -/
def State.validate (s : State) : Option Answer :=
  match s.firstUnplaced with
  | some t => some (.of .unplaced (u8 0 ++ u8 t.val))
  | none =>
    match s.firstOverlap with
    | some p => some (.of .overlap (u8 0 ++ u8 p.1.val ++ u8 p.2.val))
    | none =>
      match s.firstTooHigh with
      | some t => some (.of .ceiling (u8 0 ++ u8 t.val))
      | none => none

/-! ### SET_MODE (R144 to R146) -/

/-- The answer OK with the mode after (11.3.1). -/
def State.modeAnswer (s : State) : Answer :=
  .of .ok (u8 s.mode.code)

/-- Entry to RUN: the mode becomes RUN and a scan request is sent (R145, R149). -/
def State.enterRun (s : State) : State :=
  { s with mode := .run }.rescan.settle

/-- Some claim record is GRANTED, STOPPING or FROZEN (R146). -/
def State.anyActive (s : State) : Bool :=
  (List.finRange 64).any fun i => (s.record i).any Claim.isActive

/-- Leaving for CONFIG: every WAITING claim retires MODE, and the scan requests find the mode CONFIG (R146). -/
def State.enterConfig (s : State) : State :=
  ({ s with mode := .config }.retireWaitingWhere (fun _ => true) .mode).rescan.settle

/-- SET_MODE RUN, rows 2 to 5 of R144. -/
def State.setModeRun (s : State) : State × Answer :=
  match s.mode with
  | .run => (s, s.modeAnswer)
  | .halt => (s, .refuse .mode)
  | .config =>
    if s.stopnLow then (s, .refuse .stopline)
    else
      match s.validate with
      | some a => (s, a)
      | none => (s.enterRun, s.enterRun.modeAnswer)

/-- SET_MODE CONFIG, rows 2 and 6 of R144. -/
def State.setModeConfig (s : State) : State × Answer :=
  match s.mode with
  | .config => (s, s.modeAnswer)
  | .run | .halt => if s.anyActive then (s, .refuse .busy) else (s.enterConfig, s.enterConfig.modeAnswer)

/-- SET_MODE: a target that is neither CONFIG nor RUN is refused RANGE (R144, R179). -/
def doSetMode (e : CpEntry) (s : State) : State × Answer :=
  if byteAt e.data 2 = Mode.run.code then s.setModeRun
  else if byteAt e.data 2 = Mode.config.code then s.setModeConfig
  else (s, .refuse .range)

/-- SET_MODE (R144). -/
def execSetMode (s : State) : Host.Outcome State Fault Refusal :=
  .next (s.powered fun s => s.execute 0x05 doSetMode)

/-- HALT: refused in CONFIG, no change in HALT, entry to HALT in RUN (R147). -/
def doHalt (_e : CpEntry) (s : State) : State × Answer :=
  match s.mode with
  | .config => (s, .refuse .mode)
  | .halt => (s, s.modeAnswer)
  | .run => (s.enterHalt.settle, s.enterHalt.settle.modeAnswer)

/-- HALT (R147). -/
def execHalt (s : State) : Host.Outcome State Fault Refusal :=
  .next (s.powered fun s => s.execute 0x06 doHalt)

/-- RESUME (R149). -/
def doResume (_e : CpEntry) (s : State) : State × Answer :=
  match s.mode with
  | .config => (s, .refuse .mode)
  | .run => (s, s.modeAnswer)
  | .halt => if s.stopnLow then (s, .refuse .stopline) else (s.enterRun, s.enterRun.modeAnswer)

/-- RESUME (R149). -/
def execResume (s : State) : Host.Outcome State Fault Refusal :=
  .next (s.powered fun s => s.execute 0x07 doResume)

/-! ### SOFT_RESET (R151) -/

/-- A tier record at a soft reset (R38); `active` says whether the tier had an active claim. -/
def Tier.softReset (r : Tier) (active : Bool) : Tier :=
  { r with
    standing := if active then none else r.standing
    fault := none
    legs := []
    lease := 0
    leaseRunning := false }

/-- The mailboxes at a soft reset: that of every handle whose record retired shows FREE and RESET, pending (R59). -/
def State.resetMailboxes (s : State) : Vector Mailbox 96 :=
  Vector.ofFn fun i => if (s.boundTo (handleOfIndex i)).isSome then ⟨.free, .reset, true⟩ else s.mailboxes[i]

/-- The soft reset, one event over every block (R151). -/
def State.softReset (s : State) : State :=
  { s with
    mode := .config
    tiers := Vector.ofFn fun t => (s.tier t).softReset (s.activeClaim t).isSome
    records := Vector.replicate 64 none
    mailboxes := s.resetMailboxes
    waitList := []
    scan := Scan.idle
    hyd := { s.hyd with committed := 0 }
    slew := { s.slew with committed := 0 }
    capture := none
    second := false
    permit := Vector.replicate 24 false }.settle

/-- SOFT_RESET (R151). -/
def doSoftReset (_e : CpEntry) (s : State) : State × Answer :=
  (s.softReset, s.softReset.modeAnswer)

/-- SOFT_RESET (R151). -/
def execSoftReset (s : State) : Host.Outcome State Fault Refusal :=
  .next (s.powered fun s => s.execute 0x08 doSoftReset)

end Sys2Proof.Machine
end

