-- ==== Sys2Proof/Machine/StatusCommands.lean ====
section
/-! DEFINITION. READ_STATUS, SET_MASK, READ_FAULT, CLEAR_FAULT (R170, R174, R137, R138). -/

namespace Sys2Proof.Machine

/-- The results of READ_STATUS (R170, 11.3.2). -/
def State.statusBytes (s : State) : List Byte :=
  u8 (s.mode.code + 4 * bit s.scan.running + 8 * bit s.scan.rescan + 16 * bit s.hyd.overdrawn +
      32 * bit s.slew.overdrawn) ++
    u16 s.hyd.capacity ++ u16 s.hyd.committed ++ u16 s.slew.capacity ++ u16 s.slew.committed ++
    u8 s.mpPort.rxErrors ++ u8 s.mpPort.txErrors ++
    u8 (s.mpPort.txErrors / 256 % 2 + 2 * s.mpPort.link.code + 8 * s.cpPort.link.code + 32 * bit s.attn) ++
    u8 s.flags.toNat ++ u8 s.enables.toNat

/-- READ_STATUS changes no state of its own (R170). -/
def doReadStatus (_e : CpEntry) (s : State) : State × Answer :=
  (s, .of .ok s.statusBytes)

/-- READ_STATUS (R170). -/
def execReadStatus (s : State) : Host.Outcome State Fault Refusal :=
  .next (s.powered fun s => s.execute 0x01 doReadStatus)

/-- SET_MASK: the enables take the values carried and ATTN follows (R174). -/
def doSetMask (e : CpEntry) (s : State) : State × Answer :=
  let en := attentionOfNat (byteAt e.data 2)
  ({ s with enables := en }.driveAttn, .of .ok (u8 en.toNat ++ u8 s.flags.toNat))

/-- SET_MASK (R174). -/
def execSetMask (s : State) : Host.Outcome State Fault Refusal :=
  .next (s.powered fun s => s.execute 0x02 doSetMask)

/-- The fault record as result bytes (11.3.2); absent fields are 0 (R178). -/
def faultBytes (capture : Option FaultRecord) (second : Bool) : List Byte :=
  match capture with
  | none => u8 (2 * bit second)
  | some r =>
    u8 (1 + 2 * bit second + 4 * bit r.kind.isHard + 8 * bit r.tier.isSome + 16 * bit r.slot.isSome +
        32 * bit r.pose.isSome) ++
      u8 r.kind.code ++ u8 ((r.tier.map fun t => t.val).getD 0) ++ u8 ((r.slot.map fun k => k.val).getD 0) ++
      u16 ((r.pose.map fun p => p.pos).getD 0) ++ u16 ((r.pose.map fun p => p.rake).getD 0) ++ u8 r.mode.code

/-- READ_FAULT changes neither the record nor SECOND (R137). -/
def doReadFault (_e : CpEntry) (s : State) : State × Answer :=
  (s, .of .ok (faultBytes s.capture s.second))

/-- READ_FAULT (R137). -/
def execReadFault (s : State) : Host.Outcome State Fault Refusal :=
  .next (s.powered fun s => s.execute 0x03 doReadFault)

/-- CLEAR_FAULT empties the record and clears SECOND; the reply carries them as they stood (R138). -/
def doClearFault (_e : CpEntry) (s : State) : State × Answer :=
  ({ s with capture := none, second := false }.settle, .of .ok (faultBytes s.capture s.second))

/-- CLEAR_FAULT (R138). -/
def execClearFault (s : State) : Host.Outcome State Fault Refusal :=
  .next (s.powered fun s => s.execute 0x04 doClearFault)

end Sys2Proof.Machine
end

