-- ==== Sys2Proof/Machine/Supervision.lean ====
section
/-! DEFINITION. REPORT and RELEASE frames at the Motion Supervisor (chapter 6). -/

namespace Sys2Proof.Machine

/-- RAKE_CLAMP is raised when the reported rake is above 450 (R9). -/
def State.noteClamp (s : State) (t : TierNo) (slot : Option SlotNo) (raw : Nat) (p : Pose) : State :=
  if 450 < raw then s.raise .rakeClamp (some t) slot (some p) else s

/-- The tracked pose becomes the converted and clamped pose (R28). -/
def State.track (s : State) (t : TierNo) (p : Pose) : State :=
  s.setTier t { s.tier t with tracked := p, havePose := true }

/-! ### REPORT (R101 to R111) -/

/-- A REPORT is a duplicate (R102). -/
def Tier.isDuplicate (r : Tier) (seq : Nat) : Bool :=
  r.haveSeq && seq == r.lastSeq

/-- SEQ_GAP is raised when the number is not the last accepted one plus 1 (R103). -/
def State.noteSequence (s : State) (t : TierNo) (seq : Nat) (p : Pose) : State :=
  let r := s.tier t
  let s1 := if r.haveSeq && seq != (r.lastSeq + 1) % 16 then s.raise .seqGap (some t) none (some p) else s
  s1.setTier t { s1.tier t with lastSeq := seq, haveSeq := true }

/-- The trim at a contained REPORT (R49, R109): a trim that changes the arc sends a scan request. -/
def State.trimClaim (s : State) (i : RecNo) (c : Claim) (g : Grant) (p : Nat) (phase : Grant → Phase) : State :=
  let a := trimmedArc (s.tier c.handle.tier).cfg s.globals c.motion g p
  if a = g.arc then s
  else (s.setRecord i (some { c with phase := phase { g with arc := a } })).rescan

/-- The retirement STOPPED at a new rest pose (R111, R118). -/
def State.retireStopped (s : State) (i : RecNo) (h : Handle) (g : Grant) (p : Pose) : State :=
  (s.retireActive i h g .stopped p (footprint (s.tier h.tier).cfg s.globals p)).rescan

/-- The lease countdown is reloaded with the lease period (R30, R112). -/
def State.reloadLease (s : State) (t : TierNo) : State :=
  s.setTier t { s.tier t with lease := s.globals.leasePeriod }

/-- Step 4 and 5 of R108 for a contained REPORT. -/
def State.containedReport (s : State) (i : RecNo) (c : Claim) (p : Pose) (moving : Bool) : State :=
  match c.phase with
  | .granted g => s.trimClaim i c g p.pos .granted
  | .stopping g => if moving then s.trimClaim i c g p.pos .stopping else s.retireStopped i c.handle g p
  | .waiting => s
  | .frozen _ => s

/-- R108: a REPORT of a MOVING or STOPPING tier against its active claim. -/
def State.superviseMoving (s : State) (t : TierNo) (i : RecNo) (c : Claim) (g : Grant) (p : Pose) (moving : Bool) :
    State :=
  let s1 := s.reloadLease t
  if !rakeCheck s.globals g.lo g.hi p.rake then s1.hardFault t .envelope (some c.handle.slot) p
  else if !positionCheck (s.tier t).cfg s.globals g.arc p then s1.hardFault t .contain (some c.handle.slot) p
  else s1.containedReport i c p moving

/-- R107: the creep check of an IDLE tier. -/
def State.superviseIdle (s : State) (t : TierNo) (p : Pose) (moving : Bool) : State :=
  if moving || !creepTest s.globals (s.tier t).rest.pos p.pos then s.hardFault t .creep none p else s

/-- R106, then R107 or R108 for a tier whose drive-fault flag is clear. -/
def State.supervise (s : State) (t : TierNo) (p : Pose) (moving drive : Bool) : State :=
  if drive then s.hardFault t .drive (s.activeSlot t) p
  else
    match s.tierState t with
    | .idle => s.superviseIdle t p moving
    | .moving | .stopping =>
      match s.activeClaim t with
      | none => s
      | some (i, c) =>
        match c.grant? with
        | none => s
        | some g => s.superviseMoving t i c g p moving
    | .faulted | .unplaced | .disabled => s

/-- R105: handling of an accepted REPORT by mode and tier state. -/
def State.handleReport (s : State) (t : TierNo) (p : Pose) (moving drive : Bool) : State :=
  if s.mode = .config ∨ s.tierState t = .unplaced then s else s.supervise t p moving drive

/-- The steps of an accepted REPORT, in order: sequence (R103), clamp and tracked pose (R104), handling (R105). -/
def State.acceptReport (s : State) (t : TierNo) (r : ReportFields) : State :=
  let p := reportedPose (s.tier t).cfg r.encoder r.rake
  ((((s.noteSequence t r.seq p).noteClamp t none r.rake p).track t p).handleReport t p r.moving r.driveFault).settle

/-- A REPORT at the Motion Supervisor; a duplicate is discarded whole (R102). -/
def State.arriveReport (s : State) (t : TierNo) (d : List Byte) : State :=
  if (s.tier t).isDuplicate (reportFields d).seq then s else s.acceptReport t (reportFields d)

/-- The Motion Supervisor takes the oldest FIFO entry, if it is a REPORT of an enabled tier (R101, R157). -/
def State.takeReport (s : State) : State :=
  match s.mpFifo with
  | .report t d :: rest => if (s.tier t).cfg.enabled then { s with mpFifo := rest }.arriveReport t d else s
  | _ => s

/-- REPORT (R105). -/
def execReport (s : State) : Host.Outcome State Fault Refusal :=
  .next (s.powered State.takeReport)

/-! ### RELEASE (R116 to R119) -/

/-- R117, steps 3 and 4: a contained RELEASE of a GRANTED claim retires ARRIVED or SHORT. -/
def State.releaseGranted (s : State) (i : RecNo) (c : Claim) (g : Grant) (p : Pose) : State :=
  let a := footprint (s.tier c.handle.tier).cfg s.globals p
  if arrivalTests s.globals c.motion p then (s.retireActive i c.handle g .arrived p a).rescan
  else
    ((s.raise .shortArrival (some c.handle.tier) (some c.handle.slot) (some p)).retireActive i c.handle g .short p
      a).rescan

/-- R117 steps 1 and 2, then what follows a contained release: `done`. -/
def State.releaseChecked (s : State) (c : Claim) (g : Grant) (d : List Byte) (done : State → Pose → State) : State :=
  let t := c.handle.tier
  let p := reportedPose (s.tier t).cfg (word32At d 0) (word16At d 4)
  let s1 := (s.noteClamp t (some c.handle.slot) (word16At d 4) p).track t p
  if contained (s.tier t).cfg s.globals g p then (done s1 p).settle
  else (s1.hardFault t .contain (some c.handle.slot) p).settle

/-- A RELEASE of a handle: ignored with PROTOCOL unless it names the head of the tier's leg queue and that claim is
active (R116); too late for a FROZEN claim (R119). -/
def State.arriveRelease (s : State) (h : Handle) (d : List Byte) : State :=
  if (s.tier h.tier).legs.head? = some h.slot then
    match s.claimAt h with
    | none => (s.raise .protocol (some h.tier) (some h.slot) none).settle
    | some (i, c) =>
      match c.phase with
      | .granted g => s.releaseChecked c g d fun s p => s.releaseGranted i c g p
      | .stopping g => s.releaseChecked c g d fun s p => s.retireStopped i c.handle g p
      | .frozen _ => s.repend h
      | .waiting => (s.raise .protocol (some h.tier) (some h.slot) none).settle
  else (s.raise .protocol (some h.tier) (some h.slot) none).settle

/-- The Motion Supervisor takes the oldest FIFO entry, if it is a RELEASE of an enabled tier (R101, R157). -/
def State.takeRelease (s : State) : State :=
  match s.mpFifo with
  | .release h d :: rest => if (s.tier h.tier).cfg.enabled then { s with mpFifo := rest }.arriveRelease h d else s
  | _ => s

/-- RELEASE (R116). -/
def execRelease (s : State) : Host.Outcome State Fault Refusal :=
  .next (s.powered State.takeRelease)

end Sys2Proof.Machine
end

