-- ==== Sys2Proof/Machine/TierCommands.lean ====
section
/-! DEFINITION. WRITE_TIER, READ_TIER, SET_REST, ADOPT, WRITE_GLOBAL, READ_GLOBAL, WRITE_CEILING, CLEAR_TIER (chapters 1, 2, 7). -/

namespace Sys2Proof.Machine

/-! ### WRITE_TIER (R21, R22) -/

/-- The nearest value within limits. -/
def saturate (lo hi v : Nat) : Nat :=
  max lo (min v hi)

/-- OK for a value within its limits, CLAMPED for one that was saturated (R169). -/
def writeStatus (lo hi v : Nat) : Status :=
  if lo ≤ v ∧ v ≤ hi then .ok else .clamped

/-- The lower limit of a numeric configuration field, 0 or 1 (R20). -/
def CfgField.lower : CfgField → Nat
  | .halfWidth => 1
  | .mult => 1
  | .enabled | .wing | .fold | .slewDemand | .rakeDemand | .bestPriority | .origin | .reverse => 0

/-- The upper limit of a configuration field (R20). -/
def CfgField.upper : CfgField → Nat
  | .enabled => 1
  | .halfWidth => 8191
  | .wing => 4095
  | .fold => 449
  | .slewDemand => 255
  | .rakeDemand => 255
  | .bestPriority => 7
  | .origin => 4294967295
  | .mult => 65535
  | .reverse => 1

/-- enabled and reverse take only the values 0 and 1 (check 4 of R21). -/
def CfgField.isFlag : CfgField → Bool
  | .enabled => true
  | .reverse => true
  | .halfWidth | .wing | .fold | .slewDemand | .rakeDemand | .bestPriority | .origin | .mult => false

/-- Writing a configuration field. -/
def TierConfig.write (c : TierConfig) (f : CfgField) (v : Nat) : TierConfig :=
  match f with
  | .enabled => { c with enabled := v == 1 }
  | .halfWidth => { c with halfWidth := v }
  | .wing => { c with wing := v }
  | .fold => { c with fold := v }
  | .slewDemand => { c with slewDemand := v }
  | .rakeDemand => { c with rakeDemand := v }
  | .bestPriority => { c with bestPriority := v }
  | .origin => { c with origin := v }
  | .mult => { c with mult := v }
  | .reverse => { c with reverse := v == 1 }

/-- Reading a configuration field; enabled and reverse read as 0 or 1 (11.3.2). -/
def TierConfig.read (c : TierConfig) (f : CfgField) : Nat :=
  match f with
  | .enabled => bit c.enabled
  | .halfWidth => c.halfWidth
  | .wing => c.wing
  | .fold => c.fold
  | .slewDemand => c.slewDemand
  | .rakeDemand => c.rakeDemand
  | .bestPriority => c.bestPriority
  | .origin => c.origin
  | .mult => c.mult
  | .reverse => bit c.reverse

/-- Writing a configuration field of a tier record: no other field changes (R22). -/
def State.writeCfg (s : State) (t : TierNo) (f : CfgField) (v : Nat) : State :=
  s.setTier t { s.tier t with cfg := (s.tier t).cfg.write f v }

/-- WRITE_TIER with its checks in order (R21). -/
def doWriteTier (e : CpEntry) (s : State) : State × Answer :=
  if s.mode ≠ .config then (s, .refuse .mode)
  else
    match tierOfNat (byteAt e.data 2), cfgFieldOfCode (byteAt e.data 3) with
    | none, _ => (s, .refuse .range)
    | some _, none => (s, .refuse .range)
    | some t, some f =>
      let v := word32At e.data 4
      if f.isFlag && 1 < v then (s, .refuse .range)
      else
        let w := saturate f.lower f.upper v
        ((s.writeCfg t f w).settle,
          .of (writeStatus f.lower f.upper v) (u8 (byteAt e.data 2) ++ u8 (byteAt e.data 3) ++ u32 w))

/-- WRITE_TIER (R21). -/
def execWriteTier (s : State) : Host.Outcome State Fault Refusal :=
  .next (s.powered fun s => s.execute 0x10 doWriteTier)

/-! ### READ_TIER (R25) -/

/-- The bytes from byte 4 on of a runtime item (11.3.2). -/
def State.runtimeBytes (s : State) (t : TierNo) (i : RuntimeItem) : List Byte :=
  let r := s.tier t
  match i with
  | .restPose => u16 r.rest.pos ++ u16 r.rest.rake ++ u8 (bit r.placed)
  | .standingArc =>
    match r.standing with
    | none => []
    | some a => u8 1 ++ u16 a.start ++ u16 a.length
  | .trackedPose => u16 r.tracked.pos ++ u16 r.tracked.rake ++ u8 (bit r.havePose)
  | .sequence => u8 r.lastSeq ++ u8 (bit r.haveSeq)
  | .lease => u8 r.lease ++ u8 (bit r.leaseRunning)
  | .faultKind => u8 (faultKindCode r.fault)
  | .legQueue => u8 r.legs.length ++ r.legs.flatMap fun k => u8 k.val
  | .tierState => u8 (s.tierState t).code

/-- The value READ_TIER returns for a field identifier, if it accepts the identifier (R25). -/
def State.readField (s : State) (t : TierNo) (code : Nat) : Option (List Byte) :=
  match cfgFieldOfCode code with
  | some f => some (u32 ((s.tier t).cfg.read f))
  | none => (runtimeItemOfCode code).map (s.runtimeBytes t)

/-- READ_TIER (R25). -/
def doReadTier (e : CpEntry) (s : State) : State × Answer :=
  match tierOfNat (byteAt e.data 2) with
  | none => (s, .refuse .range)
  | some t =>
    match s.readField t (byteAt e.data 3) with
    | none => (s, .refuse .range)
    | some v => (s, .of .ok (u8 (byteAt e.data 2) ++ u8 (byteAt e.data 3) ++ v))

/-- READ_TIER (R25). -/
def execReadTier (s : State) : Host.Outcome State Fault Refusal :=
  .next (s.powered fun s => s.execute 0x11 doReadTier)

/-! ### SET_REST and ADOPT (R36, R37) -/

/-- The results of SET_REST and ADOPT: tier, position, rake, standing arc (11.3.1). -/
def restBytes (t : TierNo) (p : Pose) (a : Arc) : List Byte :=
  u8 t.val ++ u16 p.pos ++ u16 p.rake ++ u16 a.start ++ u16 a.length

/-- A tier is placed at a pose with the footprint there as its standing arc (R36, R37). -/
def State.placeAtFootprint (s : State) (t : TierNo) (p : Pose) : State :=
  s.placeAt t p (footprint (s.tier t).cfg s.globals p)

/-- SET_REST (R36). The tier's state can change with the placed flag, so the attention flags follow. -/
def doSetRest (e : CpEntry) (s : State) : State × Answer :=
  if s.mode ≠ .config then (s, .refuse .mode)
  else
    match tierOfNat (byteAt e.data 2) with
    | none => (s, .refuse .range)
    | some t =>
      let p : Pose := ⟨min (word32At e.data 3) 65535, min (word32At e.data 7) 450⟩
      let st := if word32At e.data 3 ≤ 65535 ∧ word32At e.data 7 ≤ 450 then Status.ok else .clamped
      ((s.placeAtFootprint t p).settle, .of st (restBytes t p (footprint (s.tier t).cfg s.globals p)))

/-- SET_REST (R36). -/
def execSetRest (s : State) : Host.Outcome State Fault Refusal :=
  .next (s.powered fun s => s.execute 0x12 doSetRest)

/-- ADOPT (R37). -/
def doAdopt (e : CpEntry) (s : State) : State × Answer :=
  if s.mode ≠ .config then (s, .refuse .mode)
  else
    match tierOfNat (byteAt e.data 2) with
    | none => (s, .refuse .range)
    | some t =>
      if !(s.tier t).havePose then (s, .refuse .noPose)
      else
        let p := (s.tier t).tracked
        ((s.placeAtFootprint t p).settle, .of .ok (restBytes t p (footprint (s.tier t).cfg s.globals p)))

/-- ADOPT (R37). -/
def execAdopt (s : State) : Host.Outcome State Fault Refusal :=
  .next (s.powered fun s => s.execute 0x13 doAdopt)

/-! ### WRITE_GLOBAL and READ_GLOBAL (R24, R25) -/

/-- The lower limit of a global parameter (R23). -/
def GlobalParam.lower : GlobalParam → Nat
  | .leasePeriod => 1
  | .margin | .backoff | .arrivalTol | .rakeTol | .creepLimit | .stopMargin => 0

/-- The upper limit of a global parameter; that of Lc is the G that stands (R23, R24). -/
def Globals.upper (g : Globals) : GlobalParam → Nat
  | .margin => 2047
  | .backoff => 1023
  | .arrivalTol => 1023
  | .rakeTol => 20
  | .creepLimit => g.margin
  | .stopMargin => 8191
  | .leasePeriod => 255

/-- Writing a global parameter. A write of G that leaves it below Lc sets Lc to the new G (R24). -/
def Globals.write (g : Globals) (p : GlobalParam) (v : Nat) : Globals :=
  match p with
  | .margin => { g with margin := v, creepLimit := min g.creepLimit v }
  | .backoff => { g with backoff := v }
  | .arrivalTol => { g with arrivalTol := v }
  | .rakeTol => { g with rakeTol := v }
  | .creepLimit => { g with creepLimit := v }
  | .stopMargin => { g with stopMargin := v }
  | .leasePeriod => { g with leasePeriod := v }

/-- Reading a global parameter. -/
def Globals.read (g : Globals) : GlobalParam → Nat
  | .margin => g.margin
  | .backoff => g.backoff
  | .arrivalTol => g.arrivalTol
  | .rakeTol => g.rakeTol
  | .creepLimit => g.creepLimit
  | .stopMargin => g.stopMargin
  | .leasePeriod => g.leasePeriod

/-- WRITE_GLOBAL (R24). -/
def doWriteGlobal (e : CpEntry) (s : State) : State × Answer :=
  if s.mode ≠ .config then (s, .refuse .mode)
  else
    match globalParamOfCode (byteAt e.data 2) with
    | none => (s, .refuse .range)
    | some p =>
      let v := word32At e.data 3
      let w := saturate p.lower (s.globals.upper p) v
      ({ s with globals := s.globals.write p w },
        .of (writeStatus p.lower (s.globals.upper p) v) (u8 (byteAt e.data 2) ++ u32 w))

/-- WRITE_GLOBAL (R24). -/
def execWriteGlobal (s : State) : Host.Outcome State Fault Refusal :=
  .next (s.powered fun s => s.execute 0x14 doWriteGlobal)

/-- READ_GLOBAL (R25). -/
def doReadGlobal (e : CpEntry) (s : State) : State × Answer :=
  match globalParamOfCode (byteAt e.data 2) with
  | none => (s, .refuse .range)
  | some p => (s, .of .ok (u8 (byteAt e.data 2) ++ u32 (s.globals.read p)))

/-- READ_GLOBAL (R25). -/
def execReadGlobal (s : State) : Host.Outcome State Fault Refusal :=
  .next (s.powered fun s => s.execute 0x15 doReadGlobal)

/-! ### WRITE_CEILING (R6) -/

/-- The values of a WRITE_CEILING, as many as its count says (11.3.1). -/
def ceilingValues (d : List Byte) : List Nat :=
  (List.range (byteAt d 3)).map fun k => word16At d (4 + 2 * k)

/-- Writing a run of sectors from `first` on (R6). -/
def writeCeilings (old : Vector Nat 256) (first : Nat) (values : List Nat) : Vector Nat 256 :=
  Vector.ofFn fun k =>
    if first ≤ k.val ∧ k.val < first + values.length then values.getD (k.val - first) 0 else old[k.val]

/-- WRITE_CEILING (R6). -/
def doWriteCeiling (e : CpEntry) (s : State) : State × Answer :=
  let first := byteAt e.data 2
  let count := byteAt e.data 3
  if s.mode ≠ .config then (s, .refuse .mode)
  else if count < 1 ∨ 6 < count then (s, .refuse .range)
  else if 255 < first + count - 1 then (s, .refuse .range)
  else
    let values := (ceilingValues e.data).map fun v => min v 450
    let st := if (ceilingValues e.data).all (fun v => v ≤ 450) then Status.ok else .clamped
    ({ s with ceilings := writeCeilings s.ceilings first values }, .of st (u8 first ++ u8 count ++ values.flatMap u16))

/-- WRITE_CEILING (R6). -/
def execWriteCeiling (s : State) : Host.Outcome State Fault Refusal :=
  .next (s.powered fun s => s.execute 0x16 doWriteCeiling)

/-! ### CLEAR_TIER (R139 to R141) -/

/-- The FROZEN head claim of a tier, if it has one. -/
def State.frozenHead (s : State) (t : TierNo) : Option (RecNo × Claim × Grant) :=
  match s.headClaim t with
  | none => none
  | some (i, c) =>
    match c.phase with
    | .frozen g => some (i, c, g)
    | .waiting => none
    | .granted _ => none
    | .stopping _ => none

/-- The new standing arc with the placement used, 0 for footprint and 1 for frozen arc; none where the placement fails
(R140). -/
def State.placement (s : State) (t : TierNo) : Option (Nat × Arc) :=
  let candidate := footprint (s.tier t).cfg s.globals (s.tier t).tracked
  if s.clearOfOthers t candidate then some (0, candidate)
  else (s.frozenHead t).map fun x => (1, x.2.2.arc)

/-- The FROZEN claim retires FAULTED, or the tier that faulted while idle is placed; in both cases at the tracked pose
with the chosen standing arc (R141). -/
def State.placeCleared (s : State) (t : TierNo) (a : Arc) : State :=
  match s.frozenHead t with
  | some (i, c, g) => s.retireActive i c.handle g .faulted (s.tier t).tracked a
  | none => s.placeAt t (s.tier t).tracked a

/-- The fault kind is cleared (R141). -/
def State.clearFaultKind (s : State) (t : TierNo) : State :=
  s.setTier t { s.tier t with fault := none }

/-- A CLEAR_TIER that succeeds (R141). -/
def State.clearTier (s : State) (t : TierNo) (a : Arc) : State :=
  ((s.placeCleared t a).clearFaultKind t).rescan.settle

/-- CLEAR_TIER with its checks in order (R139). -/
def doClearTier (e : CpEntry) (s : State) : State × Answer :=
  if s.mode = .config then (s, .refuse .mode)
  else
    match tierOfNat (byteAt e.data 2) with
    | none => (s, .refuse .range)
    | some t =>
      if s.tierState t ≠ .faulted then (s, .refuse .notFaulted)
      else
        match s.placement t with
        | none => (s, .refuse .overlap)
        | some (k, a) => (s.clearTier t a, .of .ok (u8 t.val ++ u8 k ++ u16 a.start ++ u16 a.length))

/-- CLEAR_TIER (R139). -/
def execClearTier (s : State) : Host.Outcome State Fault Refusal :=
  .next (s.powered fun s => s.execute 0x24 doClearTier)

end Sys2Proof.Machine
end

