-- ==== Sys2Proof/Machine/Dispatch.lean ====
section
/-! DEFINITION. exec: one arm per event, each one call of its meaning. -/

namespace Sys2Proof.Machine

/-- The effect of one event on everything but the queue. -/
def exec (i : Instr) (s : State) : Host.Outcome State Fault Refusal :=
  match i with
  | .powerOnReset cause stopnLow => Sys2Proof.Machine.execPowerOnReset cause stopnLow s
  | .resetnRisingEdge straps stopnLow => Sys2Proof.Machine.execResetnRisingEdge straps stopnLow s
  | .stopnAssertion => Sys2Proof.Machine.execStopnAssertion s
  | .stopnRelease => Sys2Proof.Machine.execStopnRelease s
  | .tick order => Sys2Proof.Machine.execTick order s
  | .leaseExpiry tier => Sys2Proof.Machine.execLeaseExpiry tier s
  | .mpFrameArrival frame => Sys2Proof.Machine.execMpFrameArrival frame s
  | .mpReceiveError => Sys2Proof.Machine.execMpReceiveError s
  | .busOffRecovery => Sys2Proof.Machine.execBusOffRecovery s
  | .disabledEntryDiscard => Sys2Proof.Machine.execDisabledEntryDiscard s
  | .claim => Sys2Proof.Machine.execClaim s
  | .cancel => Sys2Proof.Machine.execCancel s
  | .report => Sys2Proof.Machine.execReport s
  | .release => Sys2Proof.Machine.execRelease s
  | .visit => Sys2Proof.Machine.execVisit s
  | .noticeStart => Sys2Proof.Machine.execNoticeStart s
  | .noticeCompletion => Sys2Proof.Machine.execNoticeCompletion s
  | .noticeFailure cause => Sys2Proof.Machine.execNoticeFailure cause s
  | .cpCommandArrival frame => Sys2Proof.Machine.execCpCommandArrival frame s
  | .cpReceiveError => Sys2Proof.Machine.execCpReceiveError s
  | .cpBusOffRecovery => Sys2Proof.Machine.execCpBusOffRecovery s
  | .replyStart => Sys2Proof.Machine.execReplyStart s
  | .replyCompletion => Sys2Proof.Machine.execReplyCompletion s
  | .replyFailure cause => Sys2Proof.Machine.execReplyFailure cause s
  | .unknownCommand => Sys2Proof.Machine.execUnknownCommand s
  | .readStatus => Sys2Proof.Machine.execReadStatus s
  | .setMask => Sys2Proof.Machine.execSetMask s
  | .readFault => Sys2Proof.Machine.execReadFault s
  | .clearFault => Sys2Proof.Machine.execClearFault s
  | .setMode => Sys2Proof.Machine.execSetMode s
  | .halt => Sys2Proof.Machine.execHalt s
  | .resume => Sys2Proof.Machine.execResume s
  | .softReset => Sys2Proof.Machine.execSoftReset s
  | .writeTier => Sys2Proof.Machine.execWriteTier s
  | .readTier => Sys2Proof.Machine.execReadTier s
  | .setRest => Sys2Proof.Machine.execSetRest s
  | .adopt => Sys2Proof.Machine.execAdopt s
  | .writeGlobal => Sys2Proof.Machine.execWriteGlobal s
  | .readGlobal => Sys2Proof.Machine.execReadGlobal s
  | .writeCeiling => Sys2Proof.Machine.execWriteCeiling s
  | .setPool => Sys2Proof.Machine.execSetPool s
  | .placeHold => Sys2Proof.Machine.execPlaceHold s
  | .liftHold => Sys2Proof.Machine.execLiftHold s
  | .cancelClaim => Sys2Proof.Machine.execCancelClaim s
  | .clearTier => Sys2Proof.Machine.execClearTier s
  | .setCursor => Sys2Proof.Machine.execSetCursor s
  | .readNext => Sys2Proof.Machine.execReadNext s

end Sys2Proof.Machine
end

