-- ==== Sys2Proof/Safety.lean ====
section
/-! DEFINITION. What the spec says holds at every moment, as predicates on a state; `State.Safe` gathers them. Also the
shapes that statements about single events use: a command that is due, an entry that is due, what a scan request does. -/

namespace Sys2Proof.Machine

/-! ### When an event is due -/

/-- The oldest entry of the CP inbound FIFO is a full command frame with this code, and the part may execute it
(R143, R166). -/
structure State.CommandDue (s : State) (e : CpEntry) (rest : List CpEntry) (code : Nat) : Prop where
  powered : s.resetHeld = false
  oldest : s.cpFifo = e :: rest
  room : s.replies.length < 16
  full : 16 ≤ e.length
  code : e.code = code

/-- The part after the execution of the oldest command: the entry has left the inbound FIFO, the command has had the
effect `f`, and its 16-byte reply, with these first result bytes, stands at the tail of the reply FIFO (R166, R178). -/
def State.answer (s : State) (e : CpEntry) (rest : List CpEntry) (f : State → State) (st : Status)
    (results : List Byte) : State :=
  let s' := f { s with cpFifo := rest }
  { s' with replies := s'.replies ++ [⟨e.tag, st, 0, padTo 14 results⟩] }

/-- The part after a refused command, but for the refusals that carry results: every result byte is 0 (R178). -/
def State.refusal (s : State) (e : CpEntry) (rest : List CpEntry) (st : Status) : State :=
  { s with cpFifo := rest, replies := s.replies ++ [⟨e.tag, st, 0, List.replicate 14 0⟩] }

/-- The oldest entry of the MP inbound FIFO may be taken by its owner (R143, R157). -/
structure State.EntryDue (s : State) (e : MpEntry) (rest : List MpEntry) : Prop where
  powered : s.resetHeld = false
  oldest : s.mpFifo = e :: rest
  enabled : (s.tier e.tier).cfg.enabled = true

/-! ### What one event does to many claims, in closed form -/

/-- Some claim record holds a claim that `p` picks. -/
def State.anyClaim (s : State) (p : Claim → Bool) : Bool :=
  (List.finRange 64).any fun i => (s.record i).any p

/-- The claim is GRANTED and `p` picks its handle and arc. -/
def Claim.grantedAnd (p : Handle → Arc → Bool) (c : Claim) : Bool :=
  match c.phase with
  | .granted g => p c.handle g.arc
  | .waiting => false
  | .stopping _ => false
  | .frozen _ => false

/-- The claim after a stop cause: a GRANTED claim becomes STOPPING with its fields kept, any other stays (R47). -/
def Claim.stopped (c : Claim) : Claim :=
  match c.phase with
  | .granted g => { c with phase := .stopping g }
  | .waiting => c
  | .stopping _ => c
  | .frozen _ => c

/-- Every GRANTED claim that `p` picks is STOPPING, its PERMIT line off, its mailbox STOPPING and GRANTED, pending; nothing
else differs (R47). -/
def State.withStopped (s : State) (p : Handle → Arc → Bool) : State :=
  { s with
    records := Vector.ofFn fun i => (s.record i).map fun c => if c.grantedAnd p then c.stopped else c
    permit := Vector.ofFn fun t => s.permitLine t && !s.anyClaim fun c => c.grantedAnd p && c.handle.tier == t
    mailboxes := Vector.ofFn fun m =>
      if s.anyClaim fun c => c.grantedAnd p && c.handle == handleOfIndex m then ⟨.stopping, .granted, true⟩
      else s.mailboxes[m] }

/-- Every WAITING claim that `p` picks has left the table: its record is FREE and unmarked, its slot and its wait-list
entry are gone, its mailbox shows FREE and the result, pending; nothing else differs (R52). -/
def State.withRetired (s : State) (p : Claim → Bool) (r : Result) : State :=
  let goes : Claim → Bool := fun c => c.isWaiting && p c
  { s with
    records := Vector.ofFn fun i => if (s.record i).any goes then none else s.record i
    waitList := s.waitList.filter fun i => !(s.record i).any goes
    scan := { s.scan with marks := Vector.ofFn fun i => s.marked i && !(s.record i).any goes }
    tiers := Vector.ofFn fun t =>
      { s.tier t with legs := (s.tier t).legs.filter fun k => !s.anyClaim fun c => goes c && c.handle == ⟨t, k⟩ }
    mailboxes := Vector.ofFn fun m =>
      if s.anyClaim fun c => goes c && c.handle == handleOfIndex m then ⟨.free, r, true⟩ else s.mailboxes[m] }

/-- The record of a handle's claim has become FREE: unmarked, out of the wait list, its slot out of the leg queue, its
mailbox FREE with the result, pending; nothing else differs (R32, R52, R63). -/
def State.withFreed (s : State) (i : RecNo) (h : Handle) (r : Result) : State :=
  { s with
    records := s.records.set i none
    waitList := s.waitList.filter fun j => j != i
    scan := { s.scan with marks := s.scan.marks.set i false }
    tiers := s.tiers.set h.tier { s.tier h.tier with legs := (s.tier h.tier).legs.filter fun k => k != h.slot }
    mailboxes := s.mailboxes.set (handleIndex h) ⟨.free, r, true⟩ }

/-- An active claim has retired at a new rest pose and standing arc: its demands are returned, PERMIT is off, the lease
has stopped, its record is FREE; nothing else differs (R53). -/
def State.withEnded (s : State) (i : RecNo) (h : Handle) (g : Grant) (r : Result) (p : Pose) (a : Arc) : State :=
  { s with
    records := s.records.set i none
    waitList := s.waitList.filter fun j => j != i
    scan := { s.scan with marks := s.scan.marks.set i false }
    hyd := { s.hyd with committed := s.hyd.committed - g.hydDraw }
    slew := { s.slew with committed := s.slew.committed - g.slewDraw }
    permit := s.permit.set h.tier false
    tiers := s.tiers.set h.tier
      { s.tier h.tier with
        rest := p, standing := some a, tracked := p, havePose := true, lease := 0, leaseRunning := false,
        legs := (s.tier h.tier).legs.filter fun k => k != h.slot }
    mailboxes := s.mailboxes.set (handleIndex h) ⟨.free, r, true⟩ }

/-- A tier has reported this sequence number, raw rake and converted pose: SEQ_GAP and RAKE_CLAMP raised where they are
due, in that order, and sequence state and tracked pose written (R103, R104). -/
def State.reported (s : State) (t : TierNo) (seq raw : Nat) (p : Pose) : State :=
  let s1 := if (s.tier t).haveSeq = true ∧ seq ≠ ((s.tier t).lastSeq + 1) % 16 then
    s.raise .seqGap (some t) none (some p) else s
  let s2 := if 450 < raw then s1.raise .rakeClamp (some t) none (some p) else s1
  { s2 with
    tiers := s.tiers.set t { s.tier t with lastSeq := seq, haveSeq := true, tracked := p, havePose := true } }

/-- A tier has released this slot at this raw rake and converted pose: RAKE_CLAMP raised where it is due, and the
tracked pose written (R117). -/
def State.released (s : State) (h : Handle) (raw : Nat) (p : Pose) : State :=
  let s1 := if 450 < raw then s.raise .rakeClamp (some h.tier) (some h.slot) (some p) else s
  { s1 with tiers := s.tiers.set h.tier { s.tier h.tier with tracked := p, havePose := true } }

/-- The tier's lease countdown is the lease period (R112). -/
def State.withLeaseReloaded (s : State) (t : TierNo) : State :=
  { s with tiers := s.tiers.set t { s.tier t with lease := s.globals.leasePeriod } }

/-- The identifier of a class for a handle; a REPORT's names the tier alone (R153). -/
def MpClass.ident (c : MpClass) (h : Handle) : Nat :=
  match c with
  | .report => 0x080 + h.tier.val
  | .claim => 0x200 + 4 * h.tier.val + h.slot.val
  | .cancel => 0x280 + 4 * h.tier.val + h.slot.val
  | .release => 0x300 + 4 * h.tier.val + h.slot.val

/-- The first marked record of the wait list, in its order (R67). -/
def State.FirstMarked (s : State) (i : RecNo) : Prop :=
  ∃ l l', s.waitList = l ++ i :: l' ∧ s.marked i = true ∧ ∀ j ∈ l, s.marked j = false

/-- A claim that a visit finds eligible: WAITING at the head of an IDLE tier's leg queue, in RUN (R62). -/
structure State.Visited (s : State) (i : RecNo) (c : Claim) : Prop where
  powered : s.resetHeld = false
  running : s.scan.running = true
  mode : s.mode = .run
  first : s.FirstMarked i
  claim : s.record i = some c
  waiting : c.phase = .waiting
  head : (s.tier c.handle.tier).legs.head? = some c.handle.slot
  idle : s.tierState c.handle.tier = .idle

/-- The admission geometry an evaluation computes, from the tier's rest pose (R69). -/
def State.geometryAtRest (s : State) (c : Claim) : Geometry :=
  admissionGeometry (s.tier c.handle.tier).cfg s.globals c.motion (s.tier c.handle.tier).rest

/-- An arc is disjoint from every other tier's space record, every occupied hold and every shadow (R71). -/
structure State.ArcIsFree (s : State) (t : TierNo) (a : Arc) : Prop where
  tiers : ∀ u b, u ≠ t → s.spaceRecord u = some b → a.overlaps b = false
  holds : ∀ k b, s.hold k = some b → a.overlaps b = false
  shadows : ∀ b ∈ s.scan.shadows, a.overlaps b = false

/-- The SLEW demand a claim draws with this geometry (R73). -/
def State.slewDemand (s : State) (c : Claim) (geo : Geometry) : Nat :=
  if geo.dist = 0 then 0 else (s.tier c.handle.tier).cfg.slewDemand

/-- The HYD demand a claim draws with this geometry (R73). -/
def State.hydDemand (s : State) (c : Claim) (geo : Geometry) : Nat :=
  if geo.hi = geo.lo then 0 else (s.tier c.handle.tier).cfg.rakeDemand

/-- A pool has room for a demand: none is drawn, or the pool is not shadowed and the total stays within the capacity
(R73). -/
def Pool.HasRoom (p : Pool) (shadowed : Bool) (demand : Nat) : Prop :=
  demand = 0 ∨ (shadowed = false ∧ p.committed + demand ≤ p.capacity)

/-! ### The claim table -/

/-- A record holds this claim. -/
def State.Holds (s : State) (i : RecNo) (c : Claim) : Prop :=
  s.record i = some c

/-- No handle has more than one record bound to it (R39). -/
def State.HandlesUnique (s : State) : Prop :=
  ∀ i j c d, s.Holds i c → s.Holds j d → c.handle = d.handle → i = j

/-- A record is in the wait list exactly when it is WAITING, none is there twice, and the list is in order of effective
priority (R60). -/
structure State.WaitListExact (s : State) : Prop where
  nodup : s.waitList.Nodup
  exact : ∀ i, i ∈ s.waitList ↔ ∃ c, s.Holds i c ∧ c.phase = .waiting
  ordered : s.waitList.Pairwise fun i j => ∀ c d, s.Holds i c → s.Holds j d → c.priority ≤ d.priority

/-- A leg queue holds exactly the slots of its tier's non-FREE claims, none twice, and a claim behind the head is
WAITING (R32). -/
structure State.LegQueuesExact (s : State) : Prop where
  nodup : ∀ t, (s.tier t).legs.Nodup
  exact : ∀ t k, k ∈ (s.tier t).legs ↔ ∃ i c, s.Holds i c ∧ c.handle = ⟨t, k⟩
  behindHead : ∀ t k, k ∈ (s.tier t).legs.tail → ∀ i c, s.Holds i c → c.handle = ⟨t, k⟩ → c.phase = .waiting

/-- A mailbox shows its record's state and result while one is bound, and FREE while none is (R54). -/
structure State.MailboxesExact (s : State) : Prop where
  bound : ∀ i c, s.Holds i c → (s.mailbox c.handle).state = c.state ∧ (s.mailbox c.handle).result = c.result
  vacant : ∀ h, (∀ i c, s.Holds i c → c.handle ≠ h) → (s.mailbox h).state = .free

/-- A tier's PERMIT line is active exactly when the tier has a claim in GRANTED state (R162). -/
def State.PermitExact (s : State) : Prop :=
  ∀ t, s.permitLine t = true ↔ ∃ i c g, s.Holds i c ∧ c.handle.tier = t ∧ c.phase = .granted g

/-- A tier's lease runs exactly when the tier has a claim in GRANTED or STOPPING; its countdown is 0 exactly while it
does not run (R112, R113). -/
structure State.LeasesExact (s : State) : Prop where
  runs : ∀ t, (s.tier t).leaseRunning = true ↔
    ∃ i c g, s.Holds i c ∧ c.handle.tier = t ∧ (c.phase = .granted g ∨ c.phase = .stopping g)
  countdown : ∀ t, (s.tier t).leaseRunning = true ↔ 1 ≤ (s.tier t).lease

/-- A FAULTED tier's claims are FROZEN, and a FROZEN claim's tier has its fault kind set (R35, R127). -/
structure State.FaultsExact (s : State) : Prop where
  frozen : ∀ i c, s.Holds i c → (s.tier c.handle.tier).fault.isSome → ∃ g, c.phase = .frozen g
  faulted : ∀ i c g, s.Holds i c → c.phase = .frozen g → (s.tier c.handle.tier).fault.isSome

/-! ### Modes, placement, power, ring -/

/-- No claim is GRANTED unless the mode is RUN (R75). -/
def State.GrantedOnlyInRun (s : State) : Prop :=
  ∀ i c g, s.Holds i c → c.phase = .granted g → s.mode = .run

/-- In CONFIG no claim is non-FREE (R20, chapter 8). -/
def State.ConfigEmpty (s : State) : Prop :=
  s.mode = .config → ∀ i, s.record i = none

/-- Outside CONFIG every enabled tier is placed, and every claim's tier is enabled (R44, R105, R157). -/
structure State.Placed (s : State) : Prop where
  tiers : s.mode ≠ .config → ∀ t, (s.tier t).cfg.enabled = true → (s.tier t).placed = true
  claims : ∀ i c, s.Holds i c → (s.tier c.handle.tier).cfg.enabled = true

/-- The HYD demand a record holds as drawn. -/
def hydDrawn (c : Option Claim) : Nat :=
  ((c.bind Claim.grant?).map fun g => g.hydDraw).getD 0

/-- The SLEW demand a record holds as drawn. -/
def slewDrawn (c : Option Claim) : Nat :=
  ((c.bind Claim.grant?).map fun g => g.slewDraw).getD 0

/-- Each committed total is the sum of the demands drawn by the claims in GRANTED, STOPPING or FROZEN, and never
exceeds 4095 (R92). -/
structure State.PoolsBalance (s : State) : Prop where
  hyd : s.hyd.committed = ((List.finRange 64).map fun i => hydDrawn (s.record i)).sum
  slew : s.slew.committed = ((List.finRange 64).map fun i => slewDrawn (s.record i)).sum
  bounded : s.hyd.committed ≤ 4095 ∧ s.slew.committed ≤ 4095

/-- No GRANTED claim's arc overlaps an occupied zone-hold entry (R75, R88). -/
def State.HoldsRespected (s : State) : Prop :=
  ∀ i c g k a, s.Holds i c → c.phase = .granted g → s.hold k = some a → g.arc.overlaps a = false

/-- The envelope high of a claim with an arc is at most every ceiling under the arc (R75). -/
def State.CeilingsRespected (s : State) : Prop :=
  ∀ i c g, s.Holds i c → c.grant? = some g → g.hi ≤ ceilingOver s.ceilings g.arc

/-- In RUN and HALT the space records of two different enabled, placed tiers never overlap (R71). -/
def State.SpaceSeparate (s : State) : Prop :=
  s.mode ≠ .config → ∀ t u a b, t ≠ u → s.spaceRecord t = some a → s.spaceRecord u = some b → a.overlaps b = false

/-! ### Ranges -/

/-- A tier's configuration fields lie in their ranges (R20). -/
structure TierConfig.InRange (c : TierConfig) : Prop where
  halfWidth : 1 ≤ c.halfWidth ∧ c.halfWidth ≤ 8191
  wing : c.wing ≤ 4095
  fold : c.fold ≤ 449
  slewDemand : c.slewDemand ≤ 255
  rakeDemand : c.rakeDemand ≤ 255
  bestPriority : c.bestPriority ≤ 7
  origin : c.origin ≤ 4294967295
  mult : 1 ≤ c.mult ∧ c.mult ≤ 65535

/-- The global motion parameters lie in their ranges, Lc at most G among them (R23). -/
structure Globals.InRange (g : Globals) : Prop where
  margin : g.margin ≤ 2047
  backoff : g.backoff ≤ 1023
  arrivalTol : g.arrivalTol ≤ 1023
  rakeTol : g.rakeTol ≤ 20
  creepLimit : g.creepLimit ≤ g.margin
  stopMargin : g.stopMargin ≤ 8191
  leasePeriod : 1 ≤ g.leasePeriod ∧ g.leasePeriod ≤ 255

/-- Every setting the console writes lies in its range: tier configurations (R20), globals (R23), ceilings (R5), pool
capacities (R92), holds (R86). -/
structure State.SettingsInRange (s : State) : Prop where
  configs : ∀ t, (s.tier t).cfg.InRange
  globals : s.globals.InRange
  ceilings : ∀ k : Fin 256, s.ceilings[k] ≤ 450
  capacities : s.hyd.capacity ≤ 4095 ∧ s.slew.capacity ≤ 4095
  holds : ∀ k a, s.hold k = some a → a.start ≤ 65535 ∧ 1 ≤ a.length ∧ a.length ≤ 65535

/-- A pose in range: position 0..65535, rake 0..450 (R26, R28). -/
abbrev Pose.InRange (p : Pose) : Prop :=
  p.pos ≤ 65535 ∧ p.rake ≤ 450

/-- The targets of a claim are in range (R40). -/
abbrev Motion.InRange (m : Motion) : Prop :=
  m.targetPosition ≤ 65535 ∧ m.targetRake ≤ 450

/-- An arc a tier can occupy: a claim arc (R49) or a standing arc (R27). -/
abbrev Arc.InRange (a : Arc) : Prop :=
  a.start ≤ 65535 ∧ 2 ≤ a.length ∧ a.length ≤ 61433

/-- The fields from grant are in range (R40). -/
structure Grant.InRange (g : Grant) : Prop where
  arc : g.arc.InRange
  envelope : g.lo ≤ g.hi ∧ g.hi ≤ 450
  draws : g.slewDraw ≤ 255 ∧ g.hydDraw ≤ 255

/-- A claim record's fields are in range (R40). -/
structure Claim.InRange (c : Claim) : Prop where
  motion : c.motion.InRange
  priority : c.priority ≤ 7
  origin : c.origin.InRange
  grant : ∀ g, c.grant? = some g → g.InRange

/-- A tier's runtime fields are in range (R26 to R30). -/
structure Tier.InRange (r : Tier) : Prop where
  rest : r.rest.InRange
  tracked : r.tracked.InRange
  standing : ∀ a, r.standing = some a → a.InRange
  lastSeq : r.lastSeq ≤ 15
  lease : r.lease ≤ 255

/-- Every tier record and every claim record is in range (chapters 2 and 3). -/
structure State.RecordsInRange (s : State) : Prop where
  tiers : ∀ t, (s.tier t).InRange
  claims : ∀ i c, s.Holds i c → c.InRange

/-- The three FIFOs hold at most 16 entries each (R156, R165, R167). -/
structure State.FifosBounded (s : State) : Prop where
  mp : s.mpFifo.length ≤ 16
  cp : s.cpFifo.length ≤ 16
  replies : s.replies.length ≤ 16

/-- The reply in transmission is the oldest reply (R167). -/
def State.ReplyInFlight (s : State) : Prop :=
  ∀ r, s.cpTx = some r → s.replies.head? = some r

/-- While RESETN is low every block is held at its power-on values (R143). -/
def State.HeldExact (s : State) : Prop :=
  s.resetHeld = true → s.powerOnReset .resetnLow s.stopnLow = s

/-- A port's counts are in range and its link state is the one its counts give (R158). -/
structure Port.Consistent (p : Port) : Prop where
  tx : p.txErrors ≤ 256
  rx : p.rxErrors ≤ 255
  link : p.link = p.relink.link

/-- Both ports are consistent, and a port in BUS-OFF sends nothing (R158, R159, R164). -/
structure State.PortsConsistent (s : State) : Prop where
  mp : s.mpPort.Consistent
  cp : s.cpPort.Consistent
  mpTx : s.mpPort.link = .busOff → s.mpTx = none
  cpTx : s.cpPort.link = .busOff → s.cpTx = none

/-! ### Faults, scan, attention -/

/-- SECOND is set only while the record holds a hard fault (R135). -/
def State.CaptureConsistent (s : State) : Prop :=
  s.second = true → ∃ r, s.capture = some r ∧ r.kind.isHard = true

/-- While running is clear the scan state is idle; while it is set some record in the wait list is marked; only records in
the wait list are marked (R63, R66). -/
structure State.ScanConsistent (s : State) : Prop where
  idle : s.scan.running = false → s.scan = Scan.idle
  members : s.scan.running = true → s.membersLeft = true
  marks : ∀ i, s.marked i = true → i ∈ s.waitList

/-- The attention flags follow their conditions, and ATTN the enabled flags; ATTN is low while RESETN is low (R173,
R174). -/
structure State.AttentionFollows (s : State) : Prop where
  flags : s.flags = s.conditions
  attn : s.resetHeld = false → s.attn = s.flags.raises s.enables
  held : s.resetHeld = true → s.attn = false

/-- What the spec says holds at every moment. -/
structure State.Safe (s : State) : Prop where
  handles : s.HandlesUnique
  waitList : s.WaitListExact
  legQueues : s.LegQueuesExact
  mailboxes : s.MailboxesExact
  permit : s.PermitExact
  leases : s.LeasesExact
  faults : s.FaultsExact
  grantedOnlyInRun : s.GrantedOnlyInRun
  configEmpty : s.ConfigEmpty
  placed : s.Placed
  pools : s.PoolsBalance
  holds : s.HoldsRespected
  ceilings : s.CeilingsRespected
  space : s.SpaceSeparate
  settings : s.SettingsInRange
  records : s.RecordsInRange
  fifos : s.FifosBounded
  replyInFlight : s.ReplyInFlight
  held : s.HeldExact
  ports : s.PortsConsistent
  capture : s.CaptureConsistent
  scan : s.ScanConsistent
  attention : s.AttentionFollows

end Sys2Proof.Machine
end

