-- ==== Sys2Proof/Certificates/Slice0/Obligations.lean ====
section
/-! DEFINITION. The statements for the provers. Each is about every state and operands that meet its hypotheses; what a
next state is equated to is the old state with the fields written out that change, so every other field is unchanged. -/

open Sys2Proof Sys2Proof.Machine

/-! ### Reset and the lines -/

/-- R143, R152, R164, R173, R174: both events of RESETN give the power-on values; power-up and the rising edge sample the
straps; STOPLINE is set by a low STOPN; while RESETN is low the part is held with ATTN low, and at the rising edge ATTN
follows the flags (every enable is on). Two clauses are the model's choice: that a power-up too holds the part with ATTN
low until a rising edge, also with STOPN low (assumption log 18), and that a rising edge gives these values from a state
in which RESETN was not low (assumption log 17). -/
def Obligations.ResetEventsGivePowerOnValues : Prop :=
  (∀ cause low s, exec (.powerOnReset cause low) s = .next
    { State.reset with
      resetHeld := true
      stopnLow := low
      mpPort := Port.powerOn (match cause with | .powerUp pins => pins.mp | .resetnLow => s.mpPort.straps)
      cpPort := Port.powerOn (match cause with | .powerUp pins => pins.cp | .resetnLow => s.cpPort.straps)
      flags := { AttentionBits.clear with stopline := low }
      attn := false
      pending := s.pending }) ∧
  (∀ straps low s, exec (.resetnRisingEdge straps low) s = .next
    { State.reset with
      resetHeld := false
      stopnLow := low
      mpPort := Port.powerOn straps.mp
      cpPort := Port.powerOn straps.cp
      flags := { AttentionBits.clear with stopline := low }
      attn := low
      pending := s.pending })

/-- The values the spec tables for a power-on reset, read off State.reset. That no attention flag is set, STOPLINE among
them, is the model's choice in part: R173 gives STOPLINE clear only where STOPN is high, and State.reset takes STOPN
released (assumption log 1). -/
def Obligations.PowerOnValuesAsTabled : Prop :=
  let s := State.reset
  s.mode = .config ∧
  (∀ t, s.tier t =
    { cfg := { enabled := false, halfWidth := 1, wing := 0, fold := 0, slewDemand := 0, rakeDemand := 0,
               bestPriority := 0, origin := 0, mult := 4096, reverse := false }
      rest := ⟨0, 0⟩, standing := none, tracked := ⟨0, 0⟩, havePose := false, lastSeq := 0, haveSeq := false,
      lease := 0, leaseRunning := false, fault := none, legs := [] }) ∧
  s.globals = { margin := 256, backoff := 128, arrivalTol := 64, rakeTol := 5, creepLimit := 64, stopMargin := 1024,
                leasePeriod := 20 } ∧
  (∀ k : Fin 256, s.ceilings[k] = 0) ∧
  (∀ i, s.record i = none) ∧ s.waitList = [] ∧
  (∀ h, s.mailbox h = { state := .free, result := .none, pending := false }) ∧
  s.scan.running = false ∧ s.scan.rescan = false ∧ (∀ i, s.marked i = false) ∧ s.scan.shadows = [] ∧
  s.scan.hydShadow = false ∧ s.scan.slewShadow = false ∧
  (∀ k, s.hold k = none) ∧
  s.hyd = { capacity := 0, committed := 0 } ∧ s.slew = { capacity := 0, committed := 0 } ∧
  s.capture = none ∧ s.second = false ∧
  s.mpFifo = [] ∧ s.mpPort.txErrors = 0 ∧ s.mpPort.rxErrors = 0 ∧ s.mpPort.link = .onLine ∧ s.mpTx = none ∧
  (∀ t, s.permitLine t = false) ∧
  s.cpFifo = [] ∧ s.replies = [] ∧ s.cpPort.txErrors = 0 ∧ s.cpPort.rxErrors = 0 ∧ s.cpPort.link = .onLine ∧
  s.cpTx = none ∧ s.cursor = { table := .tiers, index := 0 } ∧
  s.flags.toNat = 0 ∧ s.enables.toNat = 127

/-- R143: while RESETN is low no event but the two of RESETN acts on the part. -/
def Obligations.NothingActsWhileResetnIsLow : Prop :=
  ∀ i s, s.resetHeld = true → (∀ cause low, i ≠ .powerOnReset cause low) →
    (∀ straps low, i ≠ .resetnRisingEdge straps low) → exec i s = .next s

/-- R148, R147, R126, R47: what an assertion and a release of STOPN do, by the mode. -/
def Obligations.StopnEdgesByMode : Prop :=
  ∀ s, s.resetHeld = false →
    (s.mode = .config → exec .stopnAssertion s = .next { s with stopnLow := true }.settle) ∧
    (s.mode = .run → exec .stopnAssertion s = .next
      ({ s.raise .hallStop none none none with stopnLow := true, mode := .halt }.withStopped fun _ _ => true).settle) ∧
    (s.mode = .halt → exec .stopnAssertion s = .next { s.raise .hallStop none none none with stopnLow := true }.settle) ∧
    exec .stopnRelease s = .next { s with stopnLow := false }.settle

/-! ### Time -/

/-- R113, R114: a tick lowers every running countdown by 1 and, where none reaches 0, touches no other tier field; the tick
at which exactly one tier's countdown reaches 0 is that tier's expiry, every other running countdown lowered by 1. That
this holds with lease period 1 also after a REPORT is the model's choice: R113 and R115 differ there (assumption log
21). That LEASE_EXPIRY takes the tick's last count with it is log 4. -/
def Obligations.TickLowersRunningCountdowns : Prop :=
  (∀ order s, s.resetHeld = false → (∀ t, (s.tier t).leaseRunning = true → 2 ≤ (s.tier t).lease) →
    exec (.tick order) s = .next
      { s with
        tiers := Vector.ofFn fun t =>
          if (s.tier t).leaseRunning = true then { s.tier t with lease := (s.tier t).lease - 1 } else s.tier t }.settle) ∧
  (∀ order s t, s.resetHeld = false → (s.tier t).leaseRunning = true → (s.tier t).lease = 1 →
    (∀ u, u ≠ t → (s.tier u).leaseRunning = true → 2 ≤ (s.tier u).lease) →
    exec (.tick order) s = exec (.leaseExpiry t)
      { s with
        tiers := Vector.ofFn fun u =>
          if u ≠ t ∧ (s.tier u).leaseRunning = true then { s.tier u with lease := (s.tier u).lease - 1 }
          else s.tier u })

/-- R114, R127, R128, R129, R48: an expiry freezes the tier's active claim with its arc, retires the tier's WAITING
claims, stops the GRANTED claims of other tiers that the hazard arc overlaps, and reports LEASE; where a claim retired the
event sends a scan request, and the attention flags and ATTN follow; no other claim, tier, pool or buffer changes. Two
points are the model's choice: that the requests of several retirements act as one (assumption log 5), and that
LEASE_EXPIRY is due with the countdown at 1 and takes the tick's last count with it (assumption log 4). -/
def Obligations.LeaseExpiryFreezesRetiresStops : Prop :=
  ∀ (s : State) t i c g, s.resetHeld = false → s.HandlesUnique → (s.tier t).leaseRunning = true → (s.tier t).lease = 1 →
    (s.tier t).fault = none → (s.tier t).cfg.enabled = true → (s.tier t).placed = true →
    s.Holds i c → c.handle.tier = t → (s.tier t).legs.head? = some c.handle.slot →
    c.phase = .granted g ∨ c.phase = .stopping g →
    (∀ j d, s.Holds j d → d.handle.tier = t → j ≠ i → d.phase = .waiting) →
    let z := hazardArc s.globals.stopMargin g.arc
    let retires (j : RecNo) : Bool := (s.record j).any fun d => d.isWaiting && d.handle.tier == t
    let left : State :=
      { s with
        waitList := s.waitList.filter fun j => !retires j
        scan := { s.scan with marks := Vector.ofFn fun j => s.marked j && !retires j } }
    ∃ u : State, exec (.leaseExpiry t) s = .next u.settle ∧
      u = { s with tiers := u.tiers, records := u.records, mailboxes := u.mailboxes, permit := u.permit,
                   capture := u.capture, second := u.second, waitList := left.waitList,
                   scan := if ∃ j : RecNo, retires j = true then left.rescan.scan else s.scan } ∧
      u.tier t = { s.tier t with
                   fault := some .lease, lease := 0, leaseRunning := false,
                   legs := (s.tier t).legs.filter fun k => !s.anyClaim fun d => d.isWaiting && d.handle == ⟨t, k⟩ } ∧
      (∀ v, v ≠ t → u.tier v = s.tier v) ∧
      u.record i = some { c with phase := .frozen g } ∧ u.mailbox c.handle = ⟨.frozen, .granted, true⟩ ∧
      u.permitLine t = false ∧
      (∀ j d, s.Holds j d → d.handle.tier = t → j ≠ i →
        u.record j = none ∧ u.mailbox d.handle = ⟨.free, .tierFault, true⟩) ∧
      (∀ j d, s.Holds j d → d.handle.tier ≠ t → d.grantedAnd (fun _ a => z.overlaps a) = true →
        u.record j = some d.stopped ∧ u.mailbox d.handle = ⟨.stopping, .granted, true⟩ ∧
          u.permitLine d.handle.tier = false) ∧
      (∀ j d, s.Holds j d → d.handle.tier ≠ t → d.grantedAnd (fun _ a => z.overlaps a) = false →
        u.record j = some d ∧ u.mailbox d.handle = s.mailbox d.handle) ∧
      (∀ j, s.record j = none → u.record j = none) ∧
      (∀ v, v ≠ t → (∀ j d, s.Holds j d → d.handle.tier = v → d.grantedAnd (fun _ a => z.overlaps a) = false) →
        u.permitLine v = s.permitLine v) ∧
      (∀ h, (∀ j d, s.Holds j d → d.handle ≠ h) → u.mailbox h = s.mailbox h) ∧
      (∀ r, s.capture = some r → r.kind.isHard = true → u.capture = some r ∧ u.second = true) ∧
      ((∀ r, s.capture = some r → r.kind.isHard = false) →
        u.capture = some ⟨.tier .lease, some t, some c.handle.slot, some (s.tier t).tracked, s.mode⟩ ∧
          u.second = s.second)

/-- R135, row by row: the latching rule of the Fault Capture; and R130: a hard fault of a tier whose fault kind is set
reaches the Fault Capture alone. -/
def Obligations.FaultCaptureLatchesFirstHardFault : Prop :=
  (∀ (s : State) k t slot pose,
    (s.capture = none → s.raise k t slot pose = { s with capture := some ⟨k, t, slot, pose, s.mode⟩ }) ∧
    (∀ r, s.capture = some r → r.kind.isHard = false → k.isHard = false → s.raise k t slot pose = s) ∧
    (∀ r, s.capture = some r → r.kind.isHard = false → k.isHard = true →
      s.raise k t slot pose = { s with capture := some ⟨k, t, slot, pose, s.mode⟩ }) ∧
    (∀ r, s.capture = some r → r.kind.isHard = true → k.isHard = false → s.raise k t slot pose = s) ∧
    (∀ r, s.capture = some r → r.kind.isHard = true → k.isHard = true → s.raise k t slot pose = { s with second := true })) ∧
  (∀ (s : State) t k k' slot p, (s.tier t).fault = some k' →
    s.hardFault t k slot p = s.raise (.tier k) (some t) slot (some p))

/-! ### The MP port -/

/-- R153 to R156, R158: a frame of a drive's class that names an enabled tier lowers the receive error count and joins the
FIFO as its newest entry with its needed bytes; one that is too short raises PROTOCOL whether or not the FIFO has room;
one that finds the FIFO full is dropped with RX_LOST. -/
def Obligations.MpFrameOfEnabledTier : Prop :=
  (∀ (c : MpClass) h f s, s.resetHeld = false → s.mpPort.link ≠ .busOff → f.extended = false → f.remote = false →
    f.ident = c.ident h → (s.tier h.tier).cfg.enabled = true → c.neededLength ≤ f.data.length → s.mpFifo.length < 16 →
    exec (.mpFrameArrival f) s = .next
      { s with
        mpPort := { s.mpPort with rxErrors := s.mpPort.rxErrors - 1 }.relink
        mpFifo := s.mpFifo ++
          [match c with
            | .report => .report h.tier (f.data.take 7)
            | .claim => .claim h (f.data.take 7)
            | .cancel => .cancel h
            | .release => .release h (f.data.take 6)] }) ∧
  (∀ (c : MpClass) h f s, s.resetHeld = false → s.mpPort.link ≠ .busOff → f.extended = false → f.remote = false →
    f.ident = c.ident h → (s.tier h.tier).cfg.enabled = true →
    let s' := { s with mpPort := { s.mpPort with rxErrors := s.mpPort.rxErrors - 1 }.relink }
    (f.data.length < c.neededLength → exec (.mpFrameArrival f) s = .next
      (s'.raise .protocol (some h.tier) (match c with | .report => none | _ => some h.slot) none).settle) ∧
    (c.neededLength ≤ f.data.length → s.mpFifo.length = 16 → exec (.mpFrameArrival f) s = .next
      (s'.raise .rxLost (some h.tier) none none).settle))

/-- R154, R152, R159: a frame that the filter does not pass changes nothing but, at most, the receive error count (free:
assumption log 6); in BUS-OFF no frame is seen. R158: a 29-bit or remote frame only lowers that count; that R158 counts it
although R152 ignores it without record is the model's choice (assumption log 6). R157: an entry whose tier is not enabled
when it is taken is discarded. -/
def Obligations.MpFrameIgnoredWithoutRecord : Prop :=
  (∀ f s, s.resetHeld = false →
    let lowered := { s with mpPort := { s.mpPort with rxErrors := s.mpPort.rxErrors - 1 }.relink }
    (s.mpPort.link = .busOff → exec (.mpFrameArrival f) s = .next s) ∧
    (s.mpPort.link ≠ .busOff → (f.extended = true ∨ f.remote = true) → exec (.mpFrameArrival f) s = .next lowered) ∧
    (s.mpPort.link ≠ .busOff → f.extended = false → f.remote = false →
      (∀ (c : MpClass) h, f.ident = c.ident h → (s.tier h.tier).cfg.enabled = false) →
      exec (.mpFrameArrival f) s = .next s ∨ exec (.mpFrameArrival f) s = .next lowered)) ∧
  (∀ s e rest, s.resetHeld = false → s.mpFifo = e :: rest → (s.tier e.tier).cfg.enabled = false →
    exec .disabledEntryDiscard s = .next { s with mpFifo := rest })

/-- R158, R159, R164: receive errors and recoveries at both ports, and the link state that a port's counts give. -/
def Obligations.LinkErrorsAndRecoveries : Prop :=
  (∀ s, s.resetHeld = false →
    (s.mpPort.link ≠ .busOff → exec .mpReceiveError s = .next
      { s with mpPort := { s.mpPort with rxErrors := min 255 (s.mpPort.rxErrors + 1) }.relink }) ∧
    (s.mpPort.link = .busOff → exec .mpReceiveError s = .next s) ∧
    (s.mpPort.link = .busOff → exec .busOffRecovery s = .next
      { s with mpPort := { s.mpPort with txErrors := 0, rxErrors := 0, link := .onLine } }) ∧
    (s.cpPort.link ≠ .busOff → exec .cpReceiveError s = .next
      { s with cpPort := { s.cpPort with rxErrors := min 255 (s.cpPort.rxErrors + 1) }.relink }) ∧
    (s.cpPort.link = .busOff → exec .cpReceiveError s = .next s) ∧
    (s.cpPort.link = .busOff → exec .cpBusOffRecovery s = .next
      { s with cpPort := { s.cpPort with txErrors := 0, rxErrors := 0, link := .onLine } })) ∧
  (∀ p : Port, p.relink.txErrors = p.txErrors ∧ p.relink.rxErrors = p.rxErrors ∧ p.relink.straps = p.straps ∧
    (p.relink.link = .onLine ↔ p.txErrors < 128 ∧ p.rxErrors < 128) ∧
    (p.relink.link = .passive ↔ (128 ≤ p.txErrors ∨ 128 ≤ p.rxErrors) ∧ p.txErrors ≤ 255) ∧
    (p.relink.link = .busOff ↔ 256 ≤ p.txErrors))

/-- R160, R161, R55, R158: the selection takes the pending mailbox of the lowest identifier, copies it and clears its pending
flag; a NOTICE that completes lowers the transmit count; one that fails leaves its mailbox pending, with the contents it
holds, and moves the transmit count by the cause. That the start is an event of its own is the model's choice (assumption
log 23). R153, R152, R176, R179: the NOTICE's frame on the link, byte by byte, with the codes it carries. -/
def Obligations.NoticeStartsCompletesOrFails : Prop :=
  (∀ s (m : Fin 96), s.resetHeld = false → s.mpPort.link ≠ .busOff → s.mpTx = none → s.mailboxes[m].pending = true →
    (∀ k : Fin 96, k < m → s.mailboxes[k].pending = false) →
    exec .noticeStart s = .next
      { s with
        mailboxes := s.mailboxes.set m { s.mailboxes[m] with pending := false }
        mpTx := some { handle := handleOfIndex m, state := s.mailboxes[m].state, result := s.mailboxes[m].result } }) ∧
  (∀ s n, s.resetHeld = false → s.mpTx = some n →
    let back := { s with
                  mpTx := none
                  mailboxes := s.mailboxes.set (handleIndex n.handle) { s.mailbox n.handle with pending := true } }
    exec .noticeCompletion s = .next
      { s with mpTx := none, mpPort := { s.mpPort with txErrors := s.mpPort.txErrors - 1 }.relink } ∧
    exec (.noticeFailure .lostArbitration) s = .next back ∧
    (s.mpPort.link = .passive → exec (.noticeFailure (.error .acknowledgement)) s = .next back) ∧
    (∀ e, s.mpPort.link = .onLine ∨ e ≠ .acknowledgement → exec (.noticeFailure (.error e)) s = .next
      { back with mpPort := { s.mpPort with txErrors := min 256 (s.mpPort.txErrors + 8) }.relink })) ∧
  (∀ n : NoticeTx, n.frame =
    { format := .fdSwitch, extended := false, remote := false,
      ident := 0x100 + 4 * n.handle.tier.val + n.handle.slot.val,
      data := [BitVec.ofNat 8 n.state.code, BitVec.ofNat 8 n.result.code, 0, 0, 0, 0, 0, 0] }) ∧
  (∀ x ∈ [(ClaimState.free, 0), (.waiting, 1), (.granted, 2), (.stopping, 3), (.frozen, 4)], x.1.code = x.2) ∧
  (∀ x ∈ [(Result.none, 0), (.queued, 1), (.granted, 2), (.arrived, 3), (.short, 4), (.stopped, 5), (.cancelled, 6),
          (.revoked, 7), (.refusedMode, 8), (.refusedRange, 9), (.refusedCeiling, 10), (.refusedTier, 11),
          (.refusedFull, 12), (.origin, 13), (.ceiling, 14), (.tierFault, 15), (.faulted, 16), (.mode, 17), (.reset, 18)],
    x.1.code = x.2)

/-! ### CLAIM and CANCEL -/

/-- R43: a CLAIM on an occupied handle is ignored with PROTOCOL. R44, R46: the checks on a CLAIM for a vacant handle, in
order; each refusal writes the mailbox and nothing else. -/
def Obligations.ClaimIgnoredOrRefused : Prop :=
  (∀ s h d rest i c, s.EntryDue (.claim h d) rest → s.Holds i c → c.handle = h →
    exec .claim s = .next ({ s with mpFifo := rest }.raise .protocol (some h.tier) (some h.slot) none).settle) ∧
  (∀ s h d rest, s.EntryDue (.claim h d) rest → (∀ i c, s.Holds i c → c.handle ≠ h) →
    let refused (r : Result) : State :=
      { s with mpFifo := rest, mailboxes := s.mailboxes.set (handleIndex h) ⟨.free, r, true⟩ }
    let badFields : Prop :=
      byteAt d 0 ∉ [1, 2, 3] ∨ (byteAt d 0 ∈ [1, 3] ∧ 1 < byteAt d 1) ∨ (byteAt d 0 ∈ [2, 3] ∧ 450 < word16At d 4) ∨
        7 < byteAt d 6
    (s.mode = .config → exec .claim s = .next (refused .refusedMode)) ∧
    (s.mode ≠ .config → (s.tierState h.tier = .unplaced ∨ s.tierState h.tier = .faulted) →
      exec .claim s = .next (refused .refusedTier)) ∧
    (s.mode ≠ .config → s.tierState h.tier ≠ .unplaced → s.tierState h.tier ≠ .faulted →
      (badFields → exec .claim s = .next (refused .refusedRange)) ∧
      (¬badFields → ∀ m, claimMotion d = some m →
        let geo := admissionGeometry (s.tier h.tier).cfg s.globals m (s.projectedPose h.tier)
        (32767 < geo.dist → exec .claim s = .next (refused .refusedRange)) ∧
        (geo.dist ≤ 32767 → ceilingOver s.ceilings geo.arc < geo.hi → exec .claim s = .next (refused .refusedCeiling)) ∧
        (geo.dist ≤ 32767 → geo.hi ≤ ceilingOver s.ceilings geo.arc → (∀ i, s.record i ≠ none) →
          exec .claim s = .next (refused .refusedFull)))))

/-- R45, R41, R39, R60, R32: the acceptance of a CLAIM, up to its scan request. R33: the projected pose, its
declared origin; that a FROZEN tail claim leaves the rest pose, as R128 says, is the model's choice (assumption log 22). -/
def Obligations.ClaimAcceptedBindsLowestFreeRecord : Prop :=
  (∀ s h d rest m i ahead behind, s.EntryDue (.claim h d) rest → (∀ j c, s.Holds j c → c.handle ≠ h) →
    s.mode ≠ .config → s.tierState h.tier ≠ .unplaced → s.tierState h.tier ≠ .faulted →
    claimMotion d = some m → byteAt d 6 ≤ 7 →
    let geo := admissionGeometry (s.tier h.tier).cfg s.globals m (s.projectedPose h.tier)
    geo.dist ≤ 32767 → geo.hi ≤ ceilingOver s.ceilings geo.arc →
    s.record i = none → (∀ j, j < i → s.record j ≠ none) →
    let p := max (byteAt d 6) (s.tier h.tier).cfg.bestPriority
    s.waitList = ahead ++ behind → (∀ j ∈ ahead, ∃ c, s.Holds j c ∧ c.priority ≤ p) →
    (∀ j ∈ behind, ∃ c, s.Holds j c ∧ p < c.priority) →
    exec .claim s = .next
      { s with
        mpFifo := rest
        records := s.records.set i (some { handle := h, motion := m, priority := p, origin := s.projectedPose h.tier,
                                           phase := .waiting })
        waitList := ahead ++ i :: behind
        tiers := s.tiers.set h.tier { s.tier h.tier with legs := (s.tier h.tier).legs ++ [h.slot] }
        mailboxes := s.mailboxes.set (handleIndex h) ⟨.waiting, .queued, true⟩ }.rescan) ∧
  (∀ (s : State) t,
    ((s.tier t).legs = [] → s.projectedPose t = (s.tier t).rest) ∧
    (∀ k i c, (s.tier t).legs.getLast? = some k → s.claimAt ⟨t, k⟩ = some (i, c) →
      (∀ g, c.phase = .frozen g → s.projectedPose t = (s.tier t).rest) ∧
      ((∀ g, c.phase ≠ .frozen g) → s.projectedPose t =
        match c.motion with
        | .slew _ target => ⟨target, c.origin.rake⟩
        | .rake target => ⟨c.origin.pos, target⟩
        | .both _ target targetRake => ⟨target, targetRake⟩)))

/-- R50, R52, R47: a drive's CANCEL by the state of the handle's record. -/
def Obligations.CancelByClaimState : Prop :=
  ∀ s h rest, s.EntryDue (.cancel h) rest →
    let s' := { s with mpFifo := rest }
    ((∀ i c, s.Holds i c → c.handle ≠ h) →
      exec .cancel s = .next (s'.raise .protocol (some h.tier) (some h.slot) none).settle) ∧
    (∀ i c, s.claimAt h = some (i, c) →
      (c.phase = .waiting → exec .cancel s = .next (s'.withFreed i c.handle .cancelled).rescan) ∧
      (∀ g, c.phase = .granted g → exec .cancel s = .next
        { s' with
          records := s.records.set i (some { c with phase := .stopping g })
          permit := s.permit.set c.handle.tier false
          mailboxes := s.mailboxes.set (handleIndex c.handle) ⟨.stopping, .granted, true⟩ }) ∧
      (∀ g, c.phase = .stopping g ∨ c.phase = .frozen g → exec .cancel s = .next
        { s' with mailboxes := s.mailboxes.set (handleIndex h) { s.mailbox h with pending := true } }))

/-! ### Scan requests and scans -/

/-- R64, R65, R66: what a scan request comes to at the event that sends it, and what the test for a scan's end comes to at
every event: with a member left nothing changes, with none left the scan ends, and in RUN with rescan-pending set a new one
starts. That several requests of one event act as one is the model's choice (assumption log 5). -/
def Obligations.ScanRequestByModeAndRunning : Prop :=
  ∀ s : State,
    (s.mode ≠ .run → (s.scan.running = true → ∃ i ∈ s.waitList, s.marked i = true) → s.rescan = s) ∧
    (s.mode ≠ .run → s.scan.running = true → (∀ i ∈ s.waitList, s.marked i = false) →
      s.rescan = { s with scan := Scan.idle }) ∧
    (s.mode = .run → s.scan.running = true → (∃ i ∈ s.waitList, s.marked i = true) →
      s.rescan = { s with scan := { s.scan with rescan := true } }) ∧
    (s.mode = .run → (s.scan.running = false ∨ ∀ i ∈ s.waitList, s.marked i = false) → s.waitList ≠ [] →
      s.rescan = { s with scan := { running := true, rescan := false, marks := Vector.ofFn fun i => decide (i ∈ s.waitList),
                                    shadows := [], hydShadow := false, slewShadow := false } }) ∧
    (s.mode = .run → s.waitList = [] → s.rescan = { s with scan := Scan.idle }) ∧
    ((s.scan.running = false ∨ ∃ i ∈ s.waitList, s.marked i = true) → s.closeScan = s) ∧
    (s.scan.running = true → (∀ i ∈ s.waitList, s.marked i = false) →
      ((s.mode ≠ .run ∨ s.scan.rescan = false ∨ s.waitList = []) → s.closeScan = { s with scan := Scan.idle }) ∧
      (s.mode = .run → s.scan.rescan = true → s.waitList ≠ [] →
        s.closeScan = { s with scan := { running := true, rescan := false,
                                         marks := Vector.ofFn fun i => decide (i ∈ s.waitList), shadows := [],
                                         hydShadow := false, slewShadow := false } })) ∧
    Scan.idle = { running := false, rescan := false, marks := Vector.ofFn fun _ => false, shadows := [],
                  hydShadow := false, slewShadow := false }

/-- R67, R66: each visit of a scan in RUN with more members to come uses up exactly one of them, and the visit to the last
member ends the scan, so a scan of n members makes at most n visits; a new scan starts there exactly where a rescan was
pending or the visit itself retired its claim, and some claim waits. -/
def Obligations.VisitUsesUpOneMember : Prop :=
  (∀ s, s.resetHeld = false → s.scan.running = true → s.mode = .run → s.waitList.Nodup →
    2 ≤ (s.waitList.filter s.marked).length →
    ∃ u, exec .visit s = .next u ∧ u.scan.running = true ∧
      (u.waitList.filter u.marked).length + 1 = (s.waitList.filter s.marked).length) ∧
  (∀ s i, s.resetHeld = false → s.scan.running = true → s.mode = .run → s.WaitListExact →
    s.waitList.filter s.marked = [i] →
    ∃ u : State, exec .visit s = .next u ∧
      (s.scan.rescan = false → u.record i ≠ none → u.scan = Scan.idle) ∧
      (u.waitList = [] → u.scan = Scan.idle) ∧
      (s.scan.rescan = true ∨ u.record i = none → u.waitList ≠ [] →
        u.scan = { running := true, rescan := false, marks := Vector.ofFn fun j => decide (j ∈ u.waitList),
                   shadows := [], hydShadow := false, slewShadow := false }))

/-- R67, R62, R68: a visit in another mode ends the scan; a visit to a claim that is not eligible leaves it WAITING in its
place, unmarked, with no shadow. -/
def Obligations.VisitEndsOrSkips : Prop :=
  ∀ s, s.resetHeld = false → s.scan.running = true →
    (s.mode ≠ .run → exec .visit s = .next { s with scan := Scan.idle }) ∧
    (∀ i c, s.mode = .run → s.FirstMarked i → s.record i = some c →
      ((s.tier c.handle.tier).legs.head? ≠ some c.handle.slot ∨ s.tierState c.handle.tier ≠ .idle) →
      exec .visit s = .next ({ s with scan := { s.scan with marks := s.scan.marks.set i false } }.closeScan).settle)

/-- R69, R70, R52: an evaluation that finds the claim out of reach, or above the ceiling, retires it; the request it sends
sets rescan-pending. -/
def Obligations.VisitRetiresOutOfReachOrTooHigh : Prop :=
  ∀ s i c, s.Visited i c →
    let geo := s.geometryAtRest c
    let retired (r : Result) : State :=
      let s' := s.withFreed i c.handle r
      ({ s' with scan := { s'.scan with rescan := true } }.closeScan).settle
    (32767 < geo.dist → exec .visit s = .next (retired .origin)) ∧
    (geo.dist ≤ 32767 → ceilingOver s.ceilings geo.arc < geo.hi → exec .visit s = .next (retired .ceiling))

/-- R71 to R74: a claim that fails the space test casts its arc; one that fails the pool test also shadows every pool it
draws on; it stays as it was, unmarked. -/
def Obligations.VisitLeavesWaitingWithShadow : Prop :=
  ∀ s i c, s.Visited i c →
    let geo := s.geometryAtRest c
    geo.dist ≤ 32767 → geo.hi ≤ ceilingOver s.ceilings geo.arc →
    (¬s.ArcIsFree c.handle.tier geo.arc → exec .visit s = .next
      ({ s with
         scan := { s.scan with
                   marks := s.scan.marks.set i false
                   shadows := s.scan.shadows ++ [geo.arc] } }.closeScan).settle) ∧
    (s.ArcIsFree c.handle.tier geo.arc →
      ¬(s.hyd.HasRoom s.scan.hydShadow (s.hydDemand c geo) ∧ s.slew.HasRoom s.scan.slewShadow (s.slewDemand c geo)) →
      exec .visit s = .next
        ({ s with
           scan := { s.scan with
                     marks := s.scan.marks.set i false
                     shadows := s.scan.shadows ++ [geo.arc]
                     hydShadow := s.scan.hydShadow || decide (s.hydDemand c geo ≠ 0)
                     slewShadow := s.scan.slewShadow || decide (s.slewDemand c geo ≠ 0) } }.closeScan).settle)

/-- R75, R76, R93, R162: a claim that passes both tests is granted: its record, the wait list, the pools, the lease, the
PERMIT line and the mailbox. -/
def Obligations.VisitGrantsWhatPassesBothTests : Prop :=
  ∀ s i c, s.Visited i c →
    let geo := s.geometryAtRest c
    let t := c.handle.tier
    geo.dist ≤ 32767 → geo.hi ≤ ceilingOver s.ceilings geo.arc → s.ArcIsFree t geo.arc →
    s.hyd.HasRoom s.scan.hydShadow (s.hydDemand c geo) → s.slew.HasRoom s.scan.slewShadow (s.slewDemand c geo) →
    exec .visit s = .next
      ({ s with
         records := s.records.set i (some { c with
           phase := .granted { arc := geo.arc, lo := geo.lo, hi := geo.hi, slewDraw := s.slewDemand c geo,
                               hydDraw := s.hydDemand c geo } })
         waitList := s.waitList.filter fun j => j != i
         scan := { s.scan with marks := s.scan.marks.set i false }
         hyd := { s.hyd with committed := s.hyd.committed + s.hydDemand c geo }
         slew := { s.slew with committed := s.slew.committed + s.slewDemand c geo }
         tiers := s.tiers.set t { s.tier t with lease := s.globals.leasePeriod, leaseRunning := true }
         permit := s.permit.set t true
         mailboxes := s.mailboxes.set (handleIndex c.handle) ⟨.granted, .granted, true⟩ }.closeScan).settle

/-! ### REPORT -/

/-- R102: a duplicate REPORT is discarded whole. R103, R104, R105, R107: an accepted REPORT that is only tracked: in CONFIG,
of an UNPLACED tier, of a FAULTED tier with the drive-fault flag clear, and of an IDLE tier at rest within the creep limit.
R8, R9: the pose it is tracked at, from the encoder value under the tier's ring map and the clamped rake. -/
def Obligations.ReportDiscardedOrOnlyTracked : Prop :=
  (∀ s t d rest, s.EntryDue (.report t d) rest → (s.tier t).haveSeq = true → byteAt d 6 % 16 = (s.tier t).lastSeq →
    exec .report s = .next { s with mpFifo := rest }) ∧
  (∀ s t d rest, s.EntryDue (.report t d) rest →
    ¬((s.tier t).haveSeq = true ∧ byteAt d 6 % 16 = (s.tier t).lastSeq) →
    let p := reportedPose (s.tier t).cfg (word32At d 0) (word16At d 4)
    (s.mode = .config ∨ s.tierState t = .unplaced ∨ (s.tierState t = .faulted ∧ byteAt d 6 / 32 % 2 = 0) ∨
      (s.tierState t = .idle ∧ byteAt d 6 / 32 % 2 = 0 ∧ byteAt d 6 / 16 % 2 = 0 ∧
        absDiff p.pos (s.tier t).rest.pos ≤ s.globals.creepLimit)) →
    exec .report s = .next ({ s with mpFifo := rest }.reported t (byteAt d 6 % 16) (word16At d 4) p).settle) ∧
  (∀ (c : TierConfig) (e raw : Nat),
    let turned : Int := ((e : Int) - c.origin) % 4294967296
    let p : Int := turned * c.mult / 65536 % 65536
    ((reportedPose c e raw).pos : Int) = (if c.reverse = true then (65536 - p) % 65536 else p) ∧
      (reportedPose c e raw).rake = (if raw ≤ 450 then raw else 450) ∧
      (reportedPose c c.origin raw).pos = 0)

/-- R106, R107, R108: the hard faults an accepted REPORT raises in RUN and HALT, with the fields they carry: DRIVE; CREEP
of an IDLE tier; ENVELOPE and CONTAIN of a MOVING or STOPPING tier, whose lease was reloaded first. -/
def Obligations.ReportRaisesHardFaults : Prop :=
  ∀ s t d rest, s.EntryDue (.report t d) rest → s.mode ≠ .config →
    ¬((s.tier t).haveSeq = true ∧ byteAt d 6 % 16 = (s.tier t).lastSeq) →
    let p := reportedPose (s.tier t).cfg (word32At d 0) (word16At d 4)
    let s' := { s with mpFifo := rest }.reported t (byteAt d 6 % 16) (word16At d 4) p
    (byteAt d 6 / 32 % 2 = 1 → s.tierState t ≠ .unplaced →
      exec .report s = .next (s'.hardFault t .drive (s.activeSlot t) p).settle) ∧
    (byteAt d 6 / 32 % 2 = 0 → s.tierState t = .idle →
      (byteAt d 6 / 16 % 2 = 1 ∨ s.globals.creepLimit < absDiff p.pos (s.tier t).rest.pos) →
      exec .report s = .next (s'.hardFault t .creep none p).settle) ∧
    (∀ i c g, byteAt d 6 / 32 % 2 = 0 → (s.tierState t = .moving ∨ s.tierState t = .stopping) →
      s.activeClaim t = some (i, c) → c.grant? = some g →
      ((p.rake < g.lo - s.globals.rakeTol ∨ min 450 (g.hi + s.globals.rakeTol) < p.rake) →
        exec .report s = .next ((s'.withLeaseReloaded t).hardFault t .envelope (some c.handle.slot) p).settle) ∧
      (g.lo - s.globals.rakeTol ≤ p.rake → p.rake ≤ min 450 (g.hi + s.globals.rakeTol) →
        (footprint (s.tier t).cfg s.globals p).within g.arc = false →
        exec .report s = .next ((s'.withLeaseReloaded t).hardFault t .contain (some c.handle.slot) p).settle))

/-- R108, R109, R49, R110: a contained REPORT reloads the lease and trims the arc of a GRANTED claim, or of a STOPPING
one whose tier still moves; a trim that changes the arc sends a scan request. -/
def Obligations.ContainedReportReloadsLeaseAndTrims : Prop :=
  ∀ s t d rest i c g, s.EntryDue (.report t d) rest → s.mode ≠ .config →
    ¬((s.tier t).haveSeq = true ∧ byteAt d 6 % 16 = (s.tier t).lastSeq) → byteAt d 6 / 32 % 2 = 0 →
    (s.tierState t = .moving ∨ s.tierState t = .stopping) → s.activeClaim t = some (i, c) → c.handle.tier = t →
    (c.phase = .granted g ∨ (c.phase = .stopping g ∧ byteAt d 6 / 16 % 2 = 1)) →
    let p := reportedPose (s.tier t).cfg (word32At d 0) (word16At d 4)
    contained (s.tier t).cfg s.globals g p = true →
    let s' := ({ s with mpFifo := rest }.reported t (byteAt d 6 % 16) (word16At d 4) p).withLeaseReloaded t
    let a := trimmedArc (s.tier t).cfg s.globals c.motion g p.pos
    (a = g.arc → exec .report s = .next s'.settle) ∧
    (a ≠ g.arc → c.phase = .granted g → exec .report s = .next
      ({ s' with records := s.records.set i (some { c with phase := .granted { g with arc := a } }) }.rescan).settle) ∧
    (a ≠ g.arc → c.phase = .stopping g → exec .report s = .next
      ({ s' with records := s.records.set i (some { c with phase := .stopping { g with arc := a } }) }.rescan).settle)

/-- R111, R53: a contained REPORT with the moving flag clear retires a STOPPING claim STOPPED at the reported pose. -/
def Obligations.ContainedReportAtRestRetiresStopped : Prop :=
  ∀ s t d rest i c g, s.EntryDue (.report t d) rest → s.mode ≠ .config →
    ¬((s.tier t).haveSeq = true ∧ byteAt d 6 % 16 = (s.tier t).lastSeq) → byteAt d 6 / 32 % 2 = 0 →
    byteAt d 6 / 16 % 2 = 0 → s.tierState t = .stopping → s.activeClaim t = some (i, c) → c.handle.tier = t →
    c.phase = .stopping g →
    let p := reportedPose (s.tier t).cfg (word32At d 0) (word16At d 4)
    contained (s.tier t).cfg s.globals g p = true →
    exec .report s = .next
      ((({ s with mpFifo := rest }.reported t (byteAt d 6 % 16) (word16At d 4) p).withEnded i c.handle g .stopped p
        (footprint (s.tier t).cfg s.globals p)).rescan).settle

/-! ### RELEASE -/

/-- R117, R18, R53: a contained RELEASE of a GRANTED head claim retires it ARRIVED where every arrival test of its kind
passes, and else SHORT with SHORT_ARRIVAL, at the released pose. -/
def Obligations.ReleaseOfGrantedClaimRetiresIt : Prop :=
  ∀ s h d rest i c g, s.EntryDue (.release h d) rest → (s.tier h.tier).legs.head? = some h.slot →
    s.claimAt h = some (i, c) → c.handle = h → c.phase = .granted g →
    let p := reportedPose (s.tier h.tier).cfg (word32At d 0) (word16At d 4)
    contained (s.tier h.tier).cfg s.globals g p = true →
    let s' := { s with mpFifo := rest }.released h (word16At d 4) p
    let a := footprint (s.tier h.tier).cfg s.globals p
    let arrived : Prop :=
      match c.motion with
      | .slew _ target => absDiff p.pos target ≤ s.globals.arrivalTol
      | .rake target => absDiff p.rake target ≤ s.globals.rakeTol
      | .both _ target targetRake =>
        absDiff p.pos target ≤ s.globals.arrivalTol ∧ absDiff p.rake targetRake ≤ s.globals.rakeTol
    (arrived → exec .release s = .next ((s'.withEnded i h g .arrived p a).rescan).settle) ∧
    (¬arrived → exec .release s = .next
      (((s'.raise .shortArrival (some h.tier) (some h.slot) (some p)).withEnded i h g .short p a).rescan).settle)

/-- R118, R117, R119, R116: a contained RELEASE of a STOPPING head claim retires it STOPPED; one outside the grant raises
CONTAIN; one of a FROZEN head claim is too late; any other is ignored with PROTOCOL. -/
def Obligations.ReleaseOtherwiseByHandle : Prop :=
  ∀ s h d rest, s.EntryDue (.release h d) rest →
    let p := reportedPose (s.tier h.tier).cfg (word32At d 0) (word16At d 4)
    let s0 := { s with mpFifo := rest }
    let s' := s0.released h (word16At d 4) p
    let ignored := (s0.raise .protocol (some h.tier) (some h.slot) none).settle
    ((s.tier h.tier).legs.head? ≠ some h.slot → exec .release s = .next ignored) ∧
    ((s.tier h.tier).legs.head? = some h.slot → ∀ i c, s.claimAt h = some (i, c) → c.handle = h →
      (c.phase = .waiting → exec .release s = .next ignored) ∧
      (∀ g, c.phase = .frozen g → exec .release s = .next
        { s0 with mailboxes := s.mailboxes.set (handleIndex h) { s.mailbox h with pending := true } }) ∧
      (∀ g, c.phase = .stopping g → contained (s.tier h.tier).cfg s.globals g p = true → exec .release s = .next
        ((s'.withEnded i h g .stopped p (footprint (s.tier h.tier).cfg s.globals p)).rescan).settle) ∧
      (∀ g, c.phase = .granted g ∨ c.phase = .stopping g → contained (s.tier h.tier).cfg s.globals g p = false →
        exec .release s = .next (s'.hardFault h.tier .contain (some h.slot) p).settle))

/-! ### The CP port -/

/-- R164, R165: the arrival of a frame on the console link. -/
def Obligations.CpFrameArrival : Prop :=
  ∀ f s, s.resetHeld = false →
    let s' := { s with cpPort := { s.cpPort with rxErrors := s.cpPort.rxErrors - 1 }.relink }
    let isCommand : Prop := f.ident = 0x010 ∧ f.extended = false ∧ f.remote = false
    (s.cpPort.link = .busOff → exec (.cpCommandArrival f) s = .next s) ∧
    (s.cpPort.link ≠ .busOff →
      (isCommand → s.cpFifo.length < 16 → exec (.cpCommandArrival f) s = .next
        { s' with cpFifo := s.cpFifo ++ [{ data := f.data.take 16, length := f.data.length }] }) ∧
      (isCommand → s.cpFifo.length = 16 → exec (.cpCommandArrival f) s = .next (s'.raise .rxLost none none none).settle) ∧
      (¬isCommand → exec (.cpCommandArrival f) s = .next s'))

/-- R167, R164, R158: a reply starts, completes and leaves, or fails and stays. That the start is an event of its own is the
model's choice (assumption log 23), and so is that a completion executes no waiting command (assumption log 24). R178,
R179: the reply's frame on the link, byte by byte, with the status code it carries. -/
def Obligations.ReplyStartsCompletesOrFails : Prop :=
  (∀ s r rest, s.resetHeld = false → s.cpPort.link ≠ .busOff → s.cpTx = none → s.replies = r :: rest →
    exec .replyStart s = .next { s with cpTx := some r }) ∧
  (∀ s r rest, s.resetHeld = false → s.cpTx = some r → s.replies = r :: rest →
    exec .replyCompletion s = .next
      { s with cpTx := none, replies := rest, cpPort := { s.cpPort with txErrors := s.cpPort.txErrors - 1 }.relink } ∧
    exec (.replyFailure .lostArbitration) s = .next { s with cpTx := none } ∧
    (s.cpPort.link = .passive → exec (.replyFailure (.error .acknowledgement)) s = .next { s with cpTx := none }) ∧
    (∀ e, s.cpPort.link = .onLine ∨ e ≠ .acknowledgement → exec (.replyFailure (.error e)) s = .next
      { s with cpTx := none, cpPort := { s.cpPort with txErrors := min 256 (s.cpPort.txErrors + 8) }.relink })) ∧
  (∀ r : Reply, r.frame =
    { format := .fdSwitch, extended := false, remote := false, ident := 0x011,
      data := [r.tag, BitVec.ofNat 8 (r.status.code + 16 * r.high)] ++ r.results }) ∧
  (∀ x ∈ [(Status.ok, 0), (.clamped, 1), (.mode, 2), (.busy, 3), (.range, 4), (.full, 5), (.unplaced, 6), (.overlap, 7),
          (.ceiling, 8), (.noPose, 9), (.stopline, 10), (.notActive, 11), (.notFaulted, 12), (.ended, 13), (.unknown, 14)],
    x.1.code = x.2)

/-- R166, R178: a frame that is too short, or whose code is none of the 22, is answered UNKNOWN and does nothing else. R168:
while the reply FIFO holds 16 replies no command is executed. -/
def Obligations.UnknownCommandsAndFullReplyFifo : Prop :=
  (∀ s e rest, s.resetHeld = false → s.cpFifo = e :: rest → s.replies.length < 16 →
    (e.length < 16 ∨ byteAt e.data 1 ∉
      [0x01, 0x02, 0x03, 0x04, 0x05, 0x06, 0x07, 0x08, 0x10, 0x11, 0x12, 0x13, 0x14, 0x15, 0x16, 0x20, 0x21, 0x22, 0x23,
        0x24, 0x30, 0x31]) →
    exec .unknownCommand s = .next (s.refusal e rest .unknown)) ∧
  (∀ s, 16 ≤ s.replies.length →
    ∀ i ∈ [Instr.unknownCommand, .readStatus, .setMask, .readFault, .clearFault, .setMode, .halt, .resume, .softReset,
            .writeTier, .readTier, .setRest, .adopt, .writeGlobal, .readGlobal, .writeCeiling, .setPool, .placeHold,
            .liftHold, .cancelClaim, .clearTier, .setCursor, .readNext],
      exec i s = .next s)

/-- R173, R174: the seven attention conditions, one by one, and ATTN from the flags and their enables; the model lets every
event end in this update, and in a state whose flags follow already it changes nothing. -/
def Obligations.AttentionFlagsFollowConditions : Prop :=
  ∀ s : State,
    let u := s.settle
    u = { s with flags := u.flags, attn := u.attn } ∧
    (u.flags.fault = true ↔ ∃ r, s.capture = some r) ∧
    (u.flags.hard = true ↔ ∃ r, s.capture = some r ∧ r.kind ∈ [.tier .lease, .tier .contain, .tier .envelope, .tier .creep,
                                                              .tier .drive, .hallStop]) ∧
    (u.flags.second = true ↔ s.second = true) ∧
    (u.flags.halt = true ↔ s.mode = .halt) ∧
    (u.flags.stopline = true ↔ s.stopnLow = true) ∧
    (u.flags.overdrawn = true ↔ s.hyd.capacity < s.hyd.committed ∨ s.slew.capacity < s.slew.committed) ∧
    (u.flags.tierFault = true ↔
      ∃ t, (s.tier t).cfg.enabled = true ∧ (s.tier t).standing ≠ none ∧ (s.tier t).fault ≠ none) ∧
    (u.attn = true ↔
      (u.flags.fault = true ∧ s.enables.fault = true) ∨ (u.flags.hard = true ∧ s.enables.hard = true) ∨
        (u.flags.second = true ∧ s.enables.second = true) ∨ (u.flags.halt = true ∧ s.enables.halt = true) ∨
        (u.flags.stopline = true ∧ s.enables.stopline = true) ∨
        (u.flags.overdrawn = true ∧ s.enables.overdrawn = true) ∨
        (u.flags.tierFault = true ∧ s.enables.tierFault = true)) ∧
    (s.AttentionFollows → s.resetHeld = false → u = s)

/-! ### Status and fault commands -/

/-- R170, 11.3.2: READ_STATUS answers OK with the part's status and changes nothing else. R174: SET_MASK sets the seven
enables from bits 0 to 6 of its argument, and ATTN follows at the same event. -/
def Obligations.ReadStatusAndSetMask : Prop :=
  (∀ s e rest, s.CommandDue e rest 0x01 →
    exec .readStatus s = .next (s.answer e rest id .ok
      (u8 (s.mode.code + 4 * bit s.scan.running + 8 * bit s.scan.rescan +
          16 * bit (decide (s.hyd.capacity < s.hyd.committed)) + 32 * bit (decide (s.slew.capacity < s.slew.committed))) ++
        u16 s.hyd.capacity ++ u16 s.hyd.committed ++ u16 s.slew.capacity ++ u16 s.slew.committed ++
        u8 s.mpPort.rxErrors ++ u8 s.mpPort.txErrors ++
        u8 (s.mpPort.txErrors / 256 % 2 + 2 * s.mpPort.link.code + 8 * s.cpPort.link.code + 32 * bit s.attn) ++
        u8 s.flags.toNat ++ u8 s.enables.toNat))) ∧
  (∀ s e rest, s.CommandDue e rest 0x02 →
    let v := byteAt e.data 2
    let on : AttentionBits :=
      { fault := v.testBit 0, hard := v.testBit 1, second := v.testBit 2, halt := v.testBit 3, stopline := v.testBit 4,
        overdrawn := v.testBit 5, tierFault := v.testBit 6 }
    exec .setMask s = .next (s.answer e rest
      (fun s => { s with
        enables := on
        attn := (s.flags.fault && on.fault) || (s.flags.hard && on.hard) || (s.flags.second && on.second) ||
          (s.flags.halt && on.halt) || (s.flags.stopline && on.stopline) || (s.flags.overdrawn && on.overdrawn) ||
          (s.flags.tierFault && on.tierFault) })
      .ok (u8 (v % 128) ++ u8 s.flags.toNat)))

/-- R137, R138, 11.3.2: READ_FAULT answers with the record and SECOND and changes neither; CLEAR_FAULT answers with them
as they stood and empties both, and the attention flags follow. -/
def Obligations.ReadAndClearFaultReportTheCapture : Prop :=
  ∀ s e rest,
    let record : List Byte :=
      match s.capture with
      | none => u8 (2 * bit s.second)
      | some r =>
        u8 (1 + 2 * bit s.second + 4 * bit r.kind.isHard + 8 * bit r.tier.isSome + 16 * bit r.slot.isSome +
            32 * bit r.pose.isSome) ++ u8 r.kind.code ++
          u8 (match r.tier with | none => 0 | some t => t.val) ++ u8 (match r.slot with | none => 0 | some k => k.val) ++
          u16 (match r.pose with | none => 0 | some p => p.pos) ++ u16 (match r.pose with | none => 0 | some p => p.rake) ++
          u8 r.mode.code
    (s.CommandDue e rest 0x03 → exec .readFault s = .next (s.answer e rest id .ok record)) ∧
    (s.CommandDue e rest 0x04 → exec .clearFault s = .next
      (s.answer e rest (fun s => { s with capture := none, second := false }.settle) .ok record))

/-! ### Mode commands -/

/-- R144, R145: SET_MODE to RUN, and to a target that is no mode it takes, row by row; RUN-entry validation in its order. -/
def Obligations.SetModeRunByRow : Prop :=
  ∀ s e rest, s.CommandDue e rest 0x05 →
    let enabled (t : TierNo) : Prop := (s.tier t).cfg.enabled = true
    let separate (t u : TierNo) : Prop :=
      ∀ a b, (s.tier t).standing = some a → (s.tier u).standing = some b → a.overlaps b = false
    let low (t : TierNo) : Prop := ∀ a, (s.tier t).standing = some a → (s.tier t).rest.rake ≤ ceilingOver s.ceilings a
    let allPlaced : Prop := ∀ t, enabled t → (s.tier t).standing ≠ none
    let allSeparate : Prop := ∀ t u, t < u → enabled t → enabled u → separate t u
    (byteAt e.data 2 ∉ [0, 1] → exec .setMode s = .next (s.refusal e rest .range)) ∧
    (byteAt e.data 2 = 1 →
      (s.mode = .run → exec .setMode s = .next (s.answer e rest id .ok (u8 1))) ∧
      (s.mode = .halt → exec .setMode s = .next (s.refusal e rest .mode)) ∧
      (s.mode = .config → s.stopnLow = true → exec .setMode s = .next (s.refusal e rest .stopline)) ∧
      (s.mode = .config → s.stopnLow = false →
        (∀ t, enabled t → (s.tier t).standing = none → (∀ u, u < t → enabled u → (s.tier u).standing ≠ none) →
          exec .setMode s = .next (s.answer e rest id .unplaced (u8 0 ++ u8 t.val))) ∧
        (∀ t u, allPlaced → t < u → enabled t → enabled u → ¬separate t u →
          (∀ v w, v < w → enabled v → enabled w → (v < t ∨ (v = t ∧ w < u)) → separate v w) →
          exec .setMode s = .next (s.answer e rest id .overlap (u8 0 ++ u8 t.val ++ u8 u.val))) ∧
        (∀ t, allPlaced → allSeparate → enabled t → ¬low t → (∀ u, u < t → enabled u → low u) →
          exec .setMode s = .next (s.answer e rest id .ceiling (u8 0 ++ u8 t.val))) ∧
        (allPlaced → allSeparate → (∀ t, enabled t → low t) →
          exec .setMode s = .next (s.answer e rest (fun s => ({ s with mode := .run }.rescan).settle) .ok (u8 1)))))

/-- R144, R146: SET_MODE to CONFIG: no change in CONFIG; BUSY while a claim is active; else every WAITING claim retires
MODE and a scan with no marked record left ends. -/
def Obligations.SetModeConfigByRow : Prop :=
  ∀ s e rest, s.CommandDue e rest 0x05 → byteAt e.data 2 = 0 →
    (s.mode = .config → exec .setMode s = .next (s.answer e rest id .ok (u8 0))) ∧
    (s.mode ≠ .config → (∃ i c, s.Holds i c ∧ c.phase ≠ .waiting) →
      exec .setMode s = .next (s.refusal e rest .busy)) ∧
    (s.mode ≠ .config → (∀ i c, s.Holds i c → c.phase = .waiting) →
      exec .setMode s = .next (s.answer e rest
        (fun s => (({ s with mode := .config }.withRetired (fun _ => true) .mode).closeScan).settle) .ok (u8 0)))

/-- R147, R149, R47: HALT and RESUME by the mode. -/
def Obligations.HaltAndResumeByMode : Prop :=
  ∀ s e rest,
    (s.CommandDue e rest 0x06 →
      (s.mode = .config → exec .halt s = .next (s.refusal e rest .mode)) ∧
      (s.mode = .halt → exec .halt s = .next (s.answer e rest id .ok (u8 2))) ∧
      (s.mode = .run → exec .halt s = .next (s.answer e rest
        (fun s => ({ s with mode := .halt }.withStopped fun _ _ => true).settle) .ok (u8 2)))) ∧
    (s.CommandDue e rest 0x07 →
      (s.mode = .config → exec .resume s = .next (s.refusal e rest .mode)) ∧
      (s.mode = .run → exec .resume s = .next (s.answer e rest id .ok (u8 1))) ∧
      (s.mode = .halt → s.stopnLow = true → exec .resume s = .next (s.refusal e rest .stopline)) ∧
      (s.mode = .halt → s.stopnLow = false → exec .resume s = .next (s.answer e rest
        (fun s => ({ s with mode := .run }.rescan).settle) .ok (u8 1))))

/-- R151, R38, R59, R68, R92, R134: SOFT_RESET, block by block; every other item is kept. -/
def Obligations.SoftResetBlockByBlock : Prop :=
  ∀ s e rest, s.CommandDue e rest 0x08 →
    exec .softReset s = .next (s.answer e rest
      (fun s => { s with
        mode := .config
        records := Vector.ofFn fun _ => none
        waitList := []
        mailboxes := Vector.ofFn fun m =>
          if s.anyClaim fun c => c.handle == handleOfIndex m then ⟨.free, .reset, true⟩ else s.mailboxes[m]
        scan := { running := false, rescan := false, marks := Vector.ofFn fun _ => false, shadows := [],
                  hydShadow := false, slewShadow := false }
        tiers := Vector.ofFn fun t =>
          { s.tier t with
            standing := if (s.activeClaim t).isSome then none else (s.tier t).standing
            fault := none, legs := [], lease := 0, leaseRunning := false }
        hyd := { s.hyd with committed := 0 }
        slew := { s.slew with committed := 0 }
        capture := none
        second := false
        permit := Vector.ofFn fun _ => false }.settle)
      .ok (u8 0))

/-! ### Tier and global commands -/

/-- R21, R22, R20: WRITE_TIER by its checks in order. -/
def Obligations.WriteTierByRow : Prop :=
  ∀ s e rest, s.CommandDue e rest 0x10 →
    let v := word32At e.data 4
    let written (t : TierNo) (c : TierConfig) : State → State :=
      fun s => { s with tiers := s.tiers.set t { s.tier t with cfg := c } }.settle
    let reply (w : Nat) : List Byte := u8 (byteAt e.data 2) ++ u8 (byteAt e.data 3) ++ u32 w
    (s.mode ≠ .config → exec .writeTier s = .next (s.refusal e rest .mode)) ∧
    (s.mode = .config → (23 < byteAt e.data 2 ∨ 9 < byteAt e.data 3) →
      exec .writeTier s = .next (s.refusal e rest .range)) ∧
    (s.mode = .config → ∀ t : TierNo, byteAt e.data 2 = t.val →
      let c := (s.tier t).cfg
      (byteAt e.data 3 ∈ [0x00, 0x09] → 1 < v → exec .writeTier s = .next (s.refusal e rest .range)) ∧
      (byteAt e.data 3 = 0x00 → v ≤ 1 → exec .writeTier s =
        .next (s.answer e rest (written t { c with enabled := decide (v = 1) }) .ok (reply v))) ∧
      (byteAt e.data 3 = 0x09 → v ≤ 1 → exec .writeTier s =
        .next (s.answer e rest (written t { c with reverse := decide (v = 1) }) .ok (reply v))) ∧
      (byteAt e.data 3 = 0x07 → exec .writeTier s =
        .next (s.answer e rest (written t { c with origin := v }) .ok (reply v))) ∧
      (∀ f ∈ [(0x01, 1, 8191, fun w => { c with halfWidth := w }), (0x02, 0, 4095, fun w => { c with wing := w }),
              (0x03, 0, 449, fun w => { c with fold := w }), (0x04, 0, 255, fun w => { c with slewDemand := w }),
              (0x05, 0, 255, fun w => { c with rakeDemand := w }), (0x06, 0, 7, fun w => { c with bestPriority := w }),
              (0x08, 1, 65535, fun w => { c with mult := w })],
        byteAt e.data 3 = f.1 →
          (f.2.1 ≤ v → v ≤ f.2.2.1 → exec .writeTier s =
            .next (s.answer e rest (written t (f.2.2.2 v)) .ok (reply v))) ∧
          (f.2.2.1 < v → exec .writeTier s =
            .next (s.answer e rest (written t (f.2.2.2 f.2.2.1)) .clamped (reply f.2.2.1))) ∧
          (v < f.2.1 → exec .writeTier s =
            .next (s.answer e rest (written t (f.2.2.2 f.2.1)) .clamped (reply f.2.1)))))

/-- R24, R23: WRITE_GLOBAL by its checks in order; a write of G that leaves it below Lc lowers Lc with it. -/
def Obligations.WriteGlobalByRow : Prop :=
  ∀ s e rest, s.CommandDue e rest 0x14 →
    let v := word32At e.data 3
    let g := s.globals
    let written (g' : Globals) : State → State := fun s => { s with globals := g' }
    let reply (w : Nat) : List Byte := u8 (byteAt e.data 2) ++ u32 w
    (s.mode ≠ .config → exec .writeGlobal s = .next (s.refusal e rest .mode)) ∧
    (s.mode = .config → 6 < byteAt e.data 2 → exec .writeGlobal s = .next (s.refusal e rest .range)) ∧
    (s.mode = .config → ∀ f ∈ [(0, 0, 2047, fun w => { g with margin := w, creepLimit := min g.creepLimit w }),
              (1, 0, 1023, fun w => { g with backoff := w }), (2, 0, 1023, fun w => { g with arrivalTol := w }),
              (3, 0, 20, fun w => { g with rakeTol := w }), (4, 0, g.margin, fun w => { g with creepLimit := w }),
              (5, 0, 8191, fun w => { g with stopMargin := w }), (6, 1, 255, fun w => { g with leasePeriod := w })],
        byteAt e.data 2 = f.1 →
          (f.2.1 ≤ v → v ≤ f.2.2.1 → exec .writeGlobal s =
            .next (s.answer e rest (written (f.2.2.2 v)) .ok (reply v))) ∧
          (f.2.2.1 < v → exec .writeGlobal s =
            .next (s.answer e rest (written (f.2.2.2 f.2.2.1)) .clamped (reply f.2.2.1))) ∧
          (v < f.2.1 → exec .writeGlobal s =
            .next (s.answer e rest (written (f.2.2.2 f.2.1)) .clamped (reply f.2.1))))

/-- R25, 11.3.2: READ_TIER and READ_GLOBAL answer with the value as it stands and change nothing else. The rest-pose bytes of a
tier that is not placed, and the zero bytes of an absent standing arc, are the model's choice (assumption log 12). -/
def Obligations.ReadTierAndGlobalReturnTheField : Prop :=
  ∀ s e rest,
    (s.CommandDue e rest 0x11 →
      let code := byteAt e.data 3
      (23 < byteAt e.data 2 ∨ (9 < code ∧ code < 0x10) ∨ 0x17 < code → exec .readTier s = .next (s.refusal e rest .range)) ∧
      (∀ t : TierNo, byteAt e.data 2 = t.val →
        let r := s.tier t
        ∀ f ∈ [(0x00, u32 (bit r.cfg.enabled)), (0x01, u32 r.cfg.halfWidth), (0x02, u32 r.cfg.wing),
               (0x03, u32 r.cfg.fold), (0x04, u32 r.cfg.slewDemand), (0x05, u32 r.cfg.rakeDemand),
               (0x06, u32 r.cfg.bestPriority), (0x07, u32 r.cfg.origin), (0x08, u32 r.cfg.mult),
               (0x09, u32 (bit r.cfg.reverse)),
               (0x10, u16 r.rest.pos ++ u16 r.rest.rake ++ u8 (bit r.standing.isSome)),
               (0x11, match r.standing with | none => u8 0 | some a => u8 1 ++ u16 a.start ++ u16 a.length),
               (0x12, u16 r.tracked.pos ++ u16 r.tracked.rake ++ u8 (bit r.havePose)),
               (0x13, u8 r.lastSeq ++ u8 (bit r.haveSeq)), (0x14, u8 r.lease ++ u8 (bit r.leaseRunning)),
               (0x15, u8 (match r.fault with | none => 0 | some k => k.code)),
               (0x16, u8 r.legs.length ++ r.legs.flatMap fun k => u8 k.val), (0x17, u8 (s.tierState t).code)],
          code = f.1 → exec .readTier s = .next (s.answer e rest id .ok (u8 t.val ++ u8 code ++ f.2)))) ∧
    (s.CommandDue e rest 0x15 →
      (6 < byteAt e.data 2 → exec .readGlobal s = .next (s.refusal e rest .range)) ∧
      (∀ f ∈ [(0, s.globals.margin), (1, s.globals.backoff), (2, s.globals.arrivalTol), (3, s.globals.rakeTol),
              (4, s.globals.creepLimit), (5, s.globals.stopMargin), (6, s.globals.leasePeriod)],
        byteAt e.data 2 = f.1 → exec .readGlobal s = .next (s.answer e rest id .ok (u8 f.1 ++ u32 f.2))))

/-- R36, R37, R27, R28: SET_REST and ADOPT place a tier with the footprint there as its standing arc. -/
def Obligations.SetRestAndAdoptPlaceTheTier : Prop :=
  ∀ s e rest,
    let placedAt (t : TierNo) (p : Pose) : State → State := fun s =>
      { s with
        tiers := s.tiers.set t
          { s.tier t with rest := p, standing := some (footprint (s.tier t).cfg s.globals p), tracked := p,
                          havePose := true } }.settle
    let reply (t : TierNo) (p : Pose) : List Byte :=
      let a := footprint (s.tier t).cfg s.globals p
      u8 t.val ++ u16 p.pos ++ u16 p.rake ++ u16 a.start ++ u16 a.length
    (s.CommandDue e rest 0x12 →
      let pos := word32At e.data 3
      let rake := word32At e.data 7
      (s.mode ≠ .config → exec .setRest s = .next (s.refusal e rest .mode)) ∧
      (s.mode = .config → 23 < byteAt e.data 2 → exec .setRest s = .next (s.refusal e rest .range)) ∧
      (s.mode = .config → ∀ t : TierNo, byteAt e.data 2 = t.val →
        (pos ≤ 65535 → rake ≤ 450 → exec .setRest s =
          .next (s.answer e rest (placedAt t ⟨pos, rake⟩) .ok (reply t ⟨pos, rake⟩))) ∧
        (65535 < pos ∨ 450 < rake → exec .setRest s =
          .next (s.answer e rest (placedAt t ⟨min pos 65535, min rake 450⟩) .clamped
            (reply t ⟨min pos 65535, min rake 450⟩))))) ∧
    (s.CommandDue e rest 0x13 →
      (s.mode ≠ .config → exec .adopt s = .next (s.refusal e rest .mode)) ∧
      (s.mode = .config → 23 < byteAt e.data 2 → exec .adopt s = .next (s.refusal e rest .range)) ∧
      (s.mode = .config → ∀ t : TierNo, byteAt e.data 2 = t.val →
        ((s.tier t).havePose = false → exec .adopt s = .next (s.refusal e rest .noPose)) ∧
        ((s.tier t).havePose = true → exec .adopt s =
          .next (s.answer e rest (placedAt t (s.tier t).tracked) .ok (reply t (s.tier t).tracked)))))

/-- R6, R5, R178: WRITE_CEILING by its rows; sectors outside the run keep their entries. That the reply carries as many values
as its count and zeros after them is the model's choice (assumption log 13). -/
def Obligations.WriteCeilingByRow : Prop :=
  ∀ s e rest, s.CommandDue e rest 0x16 →
    let first := byteAt e.data 2
    let count := byteAt e.data 3
    let value (k : Nat) : Nat := word16At e.data (4 + 2 * k)
    (s.mode ≠ .config → exec .writeCeiling s = .next (s.refusal e rest .mode)) ∧
    (s.mode = .config → (count = 0 ∨ 6 < count ∨ 255 < first + count - 1) →
      exec .writeCeiling s = .next (s.refusal e rest .range)) ∧
    (s.mode = .config → 1 ≤ count → count ≤ 6 → first + count - 1 ≤ 255 →
      ∀ st, st = (if ∀ k < count, value k ≤ 450 then Status.ok else .clamped) →
      exec .writeCeiling s = .next (s.answer e rest
        (fun s => { s with
          ceilings := Vector.ofFn fun j =>
            if first ≤ j.val ∧ j.val < first + count then min (value (j.val - first)) 450 else s.ceilings[j] })
        st (u8 first ++ u8 count ++ (List.range count).flatMap fun k => u16 (min (value k) 450))))

/-! ### Hall commands -/

/-- R95, R96: SET_POOL by its rows; a raise sends a scan request; the committed total is not changed. -/
def Obligations.SetPoolByRow : Prop :=
  ∀ s e rest, s.CommandDue e rest 0x20 →
    let v := word32At e.data 3
    let w := min v 4095
    ∀ st, st = (if v ≤ 4095 then Status.ok else .clamped) →
    (1 < byteAt e.data 2 → exec .setPool s = .next (s.refusal e rest .range)) ∧
    (byteAt e.data 2 = 0 →
      (s.hyd.capacity < w → exec .setPool s = .next (s.answer e rest
        (fun s => ({ s with hyd := { s.hyd with capacity := w } }.rescan).settle) st
        (u8 0 ++ u16 w ++ u16 s.hyd.committed))) ∧
      (w ≤ s.hyd.capacity → exec .setPool s = .next (s.answer e rest
        (fun s => { s with hyd := { s.hyd with capacity := w } }.settle) st (u8 0 ++ u16 w ++ u16 s.hyd.committed)))) ∧
    (byteAt e.data 2 = 1 →
      (s.slew.capacity < w → exec .setPool s = .next (s.answer e rest
        (fun s => ({ s with slew := { s.slew with capacity := w } }.rescan).settle) st
        (u8 1 ++ u16 w ++ u16 s.slew.committed))) ∧
      (w ≤ s.slew.capacity → exec .setPool s = .next (s.answer e rest
        (fun s => { s with slew := { s.slew with capacity := w } }.settle) st
        (u8 1 ++ u16 w ++ u16 s.slew.committed))))

/-- R87, R88, R47: PLACE_HOLD occupies the lowest free entry and stops exactly the GRANTED claims whose arcs overlap the
hold as placed. R90: LIFT_HOLD by its rows; a lift sends a scan request. -/
def Obligations.HoldsPlacedAndLiftedByRow : Prop :=
  (∀ s e rest, s.CommandDue e rest 0x21 →
    let start := word32At e.data 2
    let len := word32At e.data 6
    let a : Arc := ⟨min start 65535, if len = 0 then 1 else min len 65535⟩
    ∀ st, st = (if start ≤ 65535 ∧ 1 ≤ len ∧ len ≤ 65535 then Status.ok else .clamped) →
    ((∀ k, s.hold k ≠ none) → exec .placeHold s = .next (s.refusal e rest .full)) ∧
    (∀ k, s.hold k = none → (∀ j, j < k → s.hold j ≠ none) → exec .placeHold s = .next (s.answer e rest
      (fun s => { s with holds := s.holds.set k (some a) }.withStopped fun _ b => a.overlaps b) st
      (u8 k.val ++ u16 a.start ++ u16 a.length)))) ∧
  (∀ s e rest, s.CommandDue e rest 0x22 →
    (7 < byteAt e.data 2 → exec .liftHold s = .next (s.refusal e rest .range)) ∧
    (∀ k : HoldNo, byteAt e.data 2 = k.val →
      (s.hold k = none → exec .liftHold s = .next (s.refusal e rest .notActive)) ∧
      (s.hold k ≠ none → exec .liftHold s = .next (s.answer e rest
        (fun s => { s with holds := s.holds.set k none }.rescan) .ok (u8 k.val)))))

/-! ### The tier hard-fault event -/

/-- R127, R128, R129, R48, R52, R19, R64: the hard fault of an enabled, placed tier whose fault kind is none, for every
kind, with an active claim and without one: the report; the fault kind; the freeze and the end of the lease; the retirement
of every WAITING claim of the tier and the scan request it sends; the hazard stop around the claim's arc as it stands, or
around the standing arc; and nothing else. That the requests of one event act as one is the model's choice (assumption log
5), and so is the rest pose as projected pose behind a FROZEN claim (assumption log 22). -/
def Obligations.TierHardFaultFreezesRetiresStops : Prop :=
  ∀ (s : State) t k slot p a, s.HandlesUnique → (s.tier t).fault = none → (s.tier t).cfg.enabled = true →
    (s.tier t).standing = some a →
    let u := s.hardFault t k slot p
    let retires (j : RecNo) : Bool := (s.record j).any fun d => d.isWaiting && d.handle.tier == t
    let left : State :=
      { s with
        waitList := s.waitList.filter fun j => !retires j
        scan := { s.scan with marks := Vector.ofFn fun j => s.marked j && !retires j } }
    let common (z : Hazard) : Prop :=
      u = { s with tiers := u.tiers, records := u.records, mailboxes := u.mailboxes, permit := u.permit,
                   capture := (s.raise (.tier k) (some t) slot (some p)).capture,
                   second := (s.raise (.tier k) (some t) slot (some p)).second, waitList := left.waitList,
                   scan := if ∃ j : RecNo, retires j = true then left.rescan.scan else s.scan } ∧
      (u.tier t).fault = some k ∧
      (u.tier t).legs = (s.tier t).legs.filter (fun x => !s.anyClaim fun d => d.isWaiting && d.handle == ⟨t, x⟩) ∧
      (∀ v, v ≠ t → u.tier v = s.tier v) ∧
      (∀ j, s.record j = none → u.record j = none) ∧
      (∀ h, (∀ j d, s.Holds j d → d.handle ≠ h) → u.mailbox h = s.mailbox h) ∧
      (∀ j d, s.Holds j d → d.handle.tier = t → d.phase = .waiting →
        u.record j = none ∧ u.mailbox d.handle = ⟨.free, .tierFault, true⟩) ∧
      (∀ j d g, s.Holds j d → d.handle.tier ≠ t → d.phase = .granted g →
        (z.overlaps g.arc = true →
          u.record j = some { d with phase := .stopping g } ∧ u.mailbox d.handle = ⟨.stopping, .granted, true⟩ ∧
            u.permitLine d.handle.tier = false) ∧
        (z.overlaps g.arc = false → u.record j = some d ∧ u.mailbox d.handle = s.mailbox d.handle)) ∧
      (∀ j d, s.Holds j d → d.handle.tier ≠ t → (∀ g, d.phase ≠ .granted g) →
        u.record j = some d ∧ u.mailbox d.handle = s.mailbox d.handle) ∧
      (∀ v, v ≠ t →
        (∀ j d g, s.Holds j d → d.handle.tier = v → d.phase = .granted g → z.overlaps g.arc = false) →
        u.permitLine v = s.permitLine v) ∧
      ((∀ x ∈ (s.tier t).legs.tail, ∃ j d, s.Holds j d ∧ d.handle = ⟨t, x⟩ ∧ d.phase = .waiting) →
        u.projectedPose t = (s.tier t).rest)
    (∀ i c g, s.activeClaim t = some (i, c) → c.phase = .granted g ∨ c.phase = .stopping g →
      common (hazardArc s.globals.stopMargin g.arc) ∧
      u.tier t = { s.tier t with fault := some k, lease := 0, leaseRunning := false, legs := (u.tier t).legs } ∧
      u.record i = some { c with phase := .frozen g } ∧ u.mailbox c.handle = ⟨.frozen, .granted, true⟩ ∧
      u.permitLine t = false ∧
      (∀ j d, s.Holds j d → d.handle.tier = t → j ≠ i → d.phase ≠ .waiting →
        u.record j = some d ∧ u.mailbox d.handle = s.mailbox d.handle)) ∧
    (s.activeClaim t = none →
      common (hazardArc s.globals.stopMargin a) ∧
      u.tier t = { s.tier t with fault := some k, legs := (u.tier t).legs } ∧ u.permitLine t = s.permitLine t ∧
      (∀ j d, s.Holds j d → d.handle.tier = t → d.phase ≠ .waiting →
        u.record j = some d ∧ u.mailbox d.handle = s.mailbox d.handle))

/-- R51, R52, R47: CANCEL_CLAIM by its rows. -/
def Obligations.CancelClaimByRow : Prop :=
  ∀ s e rest, s.CommandDue e rest 0x23 →
    ((23 < byteAt e.data 2 ∨ 3 < byteAt e.data 3) → exec .cancelClaim s = .next (s.refusal e rest .range)) ∧
    (∀ h : Handle, byteAt e.data 2 = h.tier.val → byteAt e.data 3 = h.slot.val →
      let reply (st : ClaimState) : List Byte := u8 h.tier.val ++ u8 h.slot.val ++ u8 st.code
      ((∀ i c, s.Holds i c → c.handle ≠ h) → exec .cancelClaim s = .next (s.refusal e rest .notActive)) ∧
      (∀ i c, s.claimAt h = some (i, c) →
        (c.phase = .waiting → exec .cancelClaim s = .next (s.answer e rest
          (fun s => (s.withFreed i c.handle .revoked).rescan) .ok (reply .free))) ∧
        (∀ g, c.phase = .granted g → exec .cancelClaim s = .next (s.answer e rest
          (fun s => { s with
            records := s.records.set i (some { c with phase := .stopping g })
            permit := s.permit.set c.handle.tier false
            mailboxes := s.mailboxes.set (handleIndex c.handle) ⟨.stopping, .granted, true⟩ }) .ok (reply .stopping))) ∧
        (∀ g, c.phase = .stopping g → exec .cancelClaim s = .next (s.answer e rest id .ok (reply .stopping))) ∧
        (∀ g, c.phase = .frozen g → exec .cancelClaim s = .next (s.answer e rest id .ok (reply .frozen)))))

/-- R139, R140, R141, R53: CLEAR_TIER by its checks in order; footprint placement where the candidate is clear of every
other space record, else the frozen arc, else OVERLAP. -/
def Obligations.ClearTierByRow : Prop :=
  ∀ s e rest, s.CommandDue e rest 0x24 →
    (s.mode = .config → exec .clearTier s = .next (s.refusal e rest .mode)) ∧
    (s.mode ≠ .config → 23 < byteAt e.data 2 → exec .clearTier s = .next (s.refusal e rest .range)) ∧
    (s.mode ≠ .config → ∀ t : TierNo, byteAt e.data 2 = t.val →
      let p := (s.tier t).tracked
      let candidate := footprint (s.tier t).cfg s.globals p
      let isClear : Prop := ∀ u b, u ≠ t → s.spaceRecord u = some b → candidate.overlaps b = false
      let unfaulted (s : State) : State :=
        ({ s with tiers := s.tiers.set t { s.tier t with fault := none } }.rescan).settle
      let reply (placement : Nat) (a : Arc) : List Byte := u8 t.val ++ u8 placement ++ u16 a.start ++ u16 a.length
      (s.tierState t ≠ .faulted → exec .clearTier s = .next (s.refusal e rest .notFaulted)) ∧
      (s.tierState t = .faulted → s.headClaim t = none →
        (isClear → exec .clearTier s = .next (s.answer e rest
          (fun s => unfaulted { s with
            tiers := s.tiers.set t { s.tier t with standing := some candidate, rest := p, tracked := p, havePose := true } })
          .ok (reply 0 candidate))) ∧
        (¬isClear → exec .clearTier s = .next (s.refusal e rest .overlap))) ∧
      (s.tierState t = .faulted → ∀ i c g, s.headClaim t = some (i, c) → c.handle.tier = t → c.phase = .frozen g →
        (isClear → exec .clearTier s = .next (s.answer e rest
          (fun s => unfaulted (s.withEnded i c.handle g .faulted p candidate)) .ok (reply 0 candidate))) ∧
        (¬isClear → exec .clearTier s = .next (s.answer e rest
          (fun s => unfaulted (s.withEnded i c.handle g .faulted p g.arc)) .ok (reply 1 g.arc)))))

/-! ### The cursor -/

/-- R171: SET_CURSOR by its rows. -/
def Obligations.SetCursorByRow : Prop :=
  ∀ s e rest, s.CommandDue e rest 0x30 →
    let index := word16At e.data 3
    (5 < byteAt e.data 2 → exec .setCursor s = .next (s.refusal e rest .range)) ∧
    (∀ f ∈ [(0, TableId.tiers, 23), (1, .claims, 63), (2, .waitList, 63), (3, .holds, 7), (4, .ceiling, 255),
            (5, .mailboxes, 95)],
      byteAt e.data 2 = f.1 →
        (f.2.2 < index → exec .setCursor s = .next (s.refusal e rest .range)) ∧
        (index ≤ f.2.2 → exec .setCursor s = .next (s.answer e rest
          (fun s => { s with cursor := { table := f.2.1, index := index } }) .ok (u8 f.1 ++ u16 index))))

/-- R172, R61, R91, R57, 11.3.3: READ_NEXT answers with the entry under the cursor and moves the cursor on by its step;
past the end it answers END and the cursor stays. The claim-record entry has a statement of its own. Two points are the
model's choice: in a tier's entry, the rest-pose bytes of a tier that is not placed and the zero bytes of an absent standing
arc (assumption log 12), and in a ceiling entry, the zeros after its values (assumption log 13). -/
def Obligations.ReadNextReturnsTheEntry : Prop :=
  ∀ s e rest, s.CommandDue e rest 0x31 →
    let i := s.cursor.index
    let moved (n : Nat) : State → State := fun s => { s with cursor := { s.cursor with index := s.cursor.index + n } }
    let ended (past : Nat) : Prop := past ≤ i →
      exec .readNext s = .next (s.answer e rest id .ended (u8 s.cursor.table.code ++ u16 i))
    (s.cursor.table = .tiers →
      ended 24 ∧
      ∀ t : TierNo, i = t.val →
        let r := s.tier t
        exec .readNext s = .next (s.answer e rest (moved 1) .ok
          (u8 i ++ u8 ((s.tierState t).code + 8 * (match r.fault with | none => 0 | some k => k.code)) ++
            u8 (bit r.standing.isSome + 2 * bit r.standing.isSome + 4 * bit r.leaseRunning + 8 * r.legs.length) ++
            u8 (r.legs.foldr (fun k acc => k.val + 4 * acc) 0) ++ u8 r.lease ++ u16 r.rest.pos ++ u16 r.rest.rake ++
            u16 (match r.standing with | none => 0 | some a => a.start) ++
            u16 (match r.standing with | none => 0 | some a => a.length)))) ∧
    (s.cursor.table = .claims → ended 64) ∧
    (s.cursor.table = .waitList →
      ended s.waitList.length ∧
      ∀ j c, s.waitList[i]? = some j → s.Holds j c →
        exec .readNext s = .next (s.answer e rest (moved 1) .ok
          (u8 i ++ u8 j.val ++ u8 c.handle.tier.val ++ u8 c.handle.slot.val ++ u8 c.priority))) ∧
    (s.cursor.table = .holds →
      ended 8 ∧
      ∀ k : HoldNo, i = k.val →
        (s.hold k = none → exec .readNext s = .next (s.answer e rest (moved 1) .ok (u8 i))) ∧
        (∀ a, s.hold k = some a →
          exec .readNext s = .next (s.answer e rest (moved 1) .ok (u8 i ++ u8 1 ++ u16 a.start ++ u16 a.length)))) ∧
    (s.cursor.table = .ceiling →
      ended 256 ∧
      (i < 256 →
        let n := min 6 (256 - i)
        exec .readNext s = .next (s.answer e rest (moved n) .ok
          (u8 i ++ u8 n ++ (List.range n).flatMap fun k => u16 (s.ceilings.getD (i + k) 0))))) ∧
    (s.cursor.table = .mailboxes →
      ended 96 ∧
      ∀ h : Handle, i = 4 * h.tier.val + h.slot.val →
        exec .readNext s = .next (s.answer e rest (moved 1) .ok
          (u8 h.tier.val ++ u8 h.slot.val ++ u8 (s.mailbox h).state.code ++ u8 (s.mailbox h).result.code ++
            u8 (bit (s.mailbox h).pending))))

/-- R57, R172, 11.3.3: the reply to READ_NEXT for a claim record has 20 bytes; read as one little-endian number from bit 4
of byte 1 it holds the fields of R40 at the places 11.3.3 gives them, and above them only zeros. -/
def Obligations.ClaimRecordEntryIsPacked : Prop :=
  ∀ s e rest i, s.CommandDue e rest 0x31 → s.cursor = ⟨.claims, i.val⟩ → s.RecordsInRange →
    ∃ r : Reply,
      exec .readNext s = .next
        { s with cpFifo := rest, replies := s.replies ++ [r], cursor := ⟨.claims, i.val + 1⟩ } ∧
      r.tag = e.tag ∧ r.status = .ok ∧ r.high < 16 ∧ r.results.length = 18 ∧ r.data.length = 20 ∧
      let n := r.high + 16 * (r.results.foldr (fun b acc => b.toNat + 256 * acc) 0)
      let field (lowest width : Nat) : Nat := n / 2 ^ lowest % 2 ^ width
      field 3 6 = i.val ∧ n < 2 ^ 124 ∧
      (s.record i = none → n = 8 * i.val) ∧
      (∀ c, s.record i = some c →
        field 0 3 = c.state.code ∧ field 9 5 = c.handle.tier.val ∧ field 14 2 = c.handle.slot.val ∧
        field 16 2 = c.motion.kindCode ∧ field 19 3 = c.priority ∧
        (match c.motion with
          | .slew dir target => field 18 1 = dir.code ∧ field 22 16 = target ∧ field 38 9 = 0
          | .rake target => field 18 1 = 0 ∧ field 22 16 = 0 ∧ field 38 9 = target
          | .both dir target targetRake => field 18 1 = dir.code ∧ field 22 16 = target ∧ field 38 9 = targetRake) ∧
        field 47 16 = c.origin.pos ∧ field 63 9 = c.origin.rake ∧
        (c.grant? = none → field 72 52 = 0) ∧
        (∀ g, c.grant? = some g →
          field 72 16 = g.arc.start ∧ field 88 16 = g.arc.length ∧ field 104 9 = g.lo ∧ field 113 9 = g.hi ∧
          (field 122 1 = 1 ↔ 0 < g.slewDraw) ∧ (field 123 1 = 1 ↔ 0 < g.hydDraw)))

/-! ### Geometry -/

/-- R10, R11: the wing widening is the quotient rounded up, never decreases and reaches X at rake 450; the footprint
half-width never decreases and lies between 1 and 14333. -/
def Obligations.FootprintWidens : Prop :=
  ∀ (c : TierConfig) (g : Globals), c.InRange → g.InRange →
    (∀ r, r ≤ c.fold → wingWidening c r = 0) ∧
    (∀ r, c.fold < r → r ≤ 450 → c.wing * (r - c.fold) ≤ wingWidening c r * (450 - c.fold) ∧
      wingWidening c r * (450 - c.fold) < c.wing * (r - c.fold) + (450 - c.fold)) ∧
    wingWidening c 450 = c.wing ∧
    (∀ r r', r ≤ r' → r' ≤ 450 → halfWidthAt c g r ≤ halfWidthAt c g r') ∧
    (∀ r, r ≤ 450 → 1 ≤ halfWidthAt c g r ∧ halfWidthAt c g r ≤ 14333)

/-- R17, R3: a trim at a contained pose keeps the arc's leading end, leaves an arc within the old one, and the trimmed arc
still holds the reported footprint. -/
def Obligations.TrimKeepsLeadingEndAndFootprint : Prop :=
  ∀ (c : TierConfig) (g : Globals) (m : Motion) (gr : Grant) (p : Pose), c.InRange → g.InRange → gr.InRange →
    p.InRange → contained c g gr p = true →
    let a := trimmedArc c g m gr p.pos
    a.length ≤ gr.arc.length ∧ 2 ≤ a.length ∧ a.within gr.arc = true ∧ (footprint c g p).within a = true ∧
      (match m with
        | .slew .cw _ | .both .cw _ _ => ringAdd a.start a.length = ringAdd gr.arc.start gr.arc.length
        | .slew .ccw _ | .both .ccw _ _ => a.start = gr.arc.start
        | .rake _ => a = gr.arc)

/-- R2, R3: overlap is symmetric, and an arc within another overlaps nothing that the other does not. -/
def Obligations.OverlapOfArcs : Prop :=
  ∀ a b f : Arc, a.InRange → b.InRange → f.InRange →
    a.overlaps b = b.overlaps a ∧ (f.within a = true → a.overlaps b = false → f.overlaps b = false)

/-! ### The machine -/

/-- A step takes the event at the front of the queue and runs it on the state with the queue's rest; on an empty queue the
block idles (assumption log 7). -/
def Obligations.StepRunsTheFrontEvent : Prop :=
  (∀ c s, step { s with pending := c :: s.pending } = exec c s) ∧
  (∀ c rest s, s.pending = c :: rest → step s = exec c { s with pending := rest }) ∧
  (∀ s, s.pending = [] → step s = .next s)

/-- Everything that `State.Safe` gathers holds right after reset. -/
def Obligations.ResetIsSafe : Prop :=
  State.reset.Safe

/-- Every step keeps everything that `State.Safe` gathers, whatever events wait in the queue. -/
def Obligations.StepKeepsSafe : Prop :=
  ∀ s u, s.Safe → step s = .next u → u.Safe

/-- R60: every step keeps the wait list exact and in order: the WAITING records, none twice, by effective priority. -/
def Obligations.StepKeepsWaitListExact : Prop :=
  ∀ s u, s.WaitListExact → step s = .next u → u.WaitListExact

/-- R75: no claim is GRANTED unless the mode is RUN, at every step. -/
def Obligations.StepKeepsGrantedOnlyInRun : Prop :=
  ∀ s u, s.GrantedOnlyInRun → step s = .next u → u.GrantedOnlyInRun

/-- R20, R23, R5, R86, R92: every step keeps every setting in its range, Lc at most G among them. -/
def Obligations.StepKeepsSettingsInRange : Prop :=
  ∀ s u, s.SettingsInRange → step s = .next u → u.SettingsInRange

/-- R156, R158, R165, R167: every step keeps the FIFOs within 16 entries, each port's link state the one its counts give,
and the reply in transmission the oldest one. -/
def Obligations.StepKeepsPortsConsistent : Prop :=
  ∀ s u, s.FifosBounded ∧ s.PortsConsistent ∧ s.ReplyInFlight → step s = .next u →
    u.FifosBounded ∧ u.PortsConsistent ∧ u.ReplyInFlight

/-- R135: once the Fault Capture holds a hard fault, its record stays until CLEAR_FAULT, SOFT_RESET, or an event of
RESETN. -/
def Obligations.HardFaultRecordStaysUntilCleared : Prop :=
  ∀ i s u r, s.capture = some r → r.kind.isHard = true → exec i s = .next u →
    i ≠ .clearFault → i ≠ .softReset → (∀ cause low, i ≠ .powerOnReset cause low) →
    (∀ straps low, i ≠ .resetnRisingEdge straps low) →
    u.capture = some r ∧ (s.second = true → u.second = true)
end

