-- ==== Sys2Proof/Laws/State.lean ====
section
/-! SUPPORT. One lemma per field per update: what each named update of State leaves as it was; then what each accessor reads
after the update of its own item. -/

namespace Sys2Proof.Machine

variable (s : State)

/-! ### setTier -/

@[simp] theorem State.setTier_resetHeld (t : TierNo) (r : Tier) : (s.setTier t r).resetHeld = s.resetHeld := rfl
@[simp] theorem State.setTier_stopnLow (t : TierNo) (r : Tier) : (s.setTier t r).stopnLow = s.stopnLow := rfl
@[simp] theorem State.setTier_mode (t : TierNo) (r : Tier) : (s.setTier t r).mode = s.mode := rfl
@[simp] theorem State.setTier_globals (t : TierNo) (r : Tier) : (s.setTier t r).globals = s.globals := rfl
@[simp] theorem State.setTier_ceilings (t : TierNo) (r : Tier) : (s.setTier t r).ceilings = s.ceilings := rfl
@[simp] theorem State.setTier_records (t : TierNo) (r : Tier) : (s.setTier t r).records = s.records := rfl
@[simp] theorem State.setTier_mailboxes (t : TierNo) (r : Tier) : (s.setTier t r).mailboxes = s.mailboxes := rfl
@[simp] theorem State.setTier_waitList (t : TierNo) (r : Tier) : (s.setTier t r).waitList = s.waitList := rfl
@[simp] theorem State.setTier_scan (t : TierNo) (r : Tier) : (s.setTier t r).scan = s.scan := rfl
@[simp] theorem State.setTier_holds (t : TierNo) (r : Tier) : (s.setTier t r).holds = s.holds := rfl
@[simp] theorem State.setTier_hyd (t : TierNo) (r : Tier) : (s.setTier t r).hyd = s.hyd := rfl
@[simp] theorem State.setTier_slew (t : TierNo) (r : Tier) : (s.setTier t r).slew = s.slew := rfl
@[simp] theorem State.setTier_capture (t : TierNo) (r : Tier) : (s.setTier t r).capture = s.capture := rfl
@[simp] theorem State.setTier_second (t : TierNo) (r : Tier) : (s.setTier t r).second = s.second := rfl
@[simp] theorem State.setTier_mpFifo (t : TierNo) (r : Tier) : (s.setTier t r).mpFifo = s.mpFifo := rfl
@[simp] theorem State.setTier_mpPort (t : TierNo) (r : Tier) : (s.setTier t r).mpPort = s.mpPort := rfl
@[simp] theorem State.setTier_mpTx (t : TierNo) (r : Tier) : (s.setTier t r).mpTx = s.mpTx := rfl
@[simp] theorem State.setTier_permit (t : TierNo) (r : Tier) : (s.setTier t r).permit = s.permit := rfl
@[simp] theorem State.setTier_cpFifo (t : TierNo) (r : Tier) : (s.setTier t r).cpFifo = s.cpFifo := rfl
@[simp] theorem State.setTier_replies (t : TierNo) (r : Tier) : (s.setTier t r).replies = s.replies := rfl
@[simp] theorem State.setTier_cpPort (t : TierNo) (r : Tier) : (s.setTier t r).cpPort = s.cpPort := rfl
@[simp] theorem State.setTier_cpTx (t : TierNo) (r : Tier) : (s.setTier t r).cpTx = s.cpTx := rfl
@[simp] theorem State.setTier_cursor (t : TierNo) (r : Tier) : (s.setTier t r).cursor = s.cursor := rfl
@[simp] theorem State.setTier_flags (t : TierNo) (r : Tier) : (s.setTier t r).flags = s.flags := rfl
@[simp] theorem State.setTier_enables (t : TierNo) (r : Tier) : (s.setTier t r).enables = s.enables := rfl
@[simp] theorem State.setTier_attn (t : TierNo) (r : Tier) : (s.setTier t r).attn = s.attn := rfl
@[simp] theorem State.setTier_pending (t : TierNo) (r : Tier) : (s.setTier t r).pending = s.pending := rfl

/-! ### setRecord -/

@[simp] theorem State.setRecord_resetHeld (i : RecNo) (c : Option Claim) : (s.setRecord i c).resetHeld = s.resetHeld := rfl
@[simp] theorem State.setRecord_stopnLow (i : RecNo) (c : Option Claim) : (s.setRecord i c).stopnLow = s.stopnLow := rfl
@[simp] theorem State.setRecord_mode (i : RecNo) (c : Option Claim) : (s.setRecord i c).mode = s.mode := rfl
@[simp] theorem State.setRecord_tiers (i : RecNo) (c : Option Claim) : (s.setRecord i c).tiers = s.tiers := rfl
@[simp] theorem State.setRecord_globals (i : RecNo) (c : Option Claim) : (s.setRecord i c).globals = s.globals := rfl
@[simp] theorem State.setRecord_ceilings (i : RecNo) (c : Option Claim) : (s.setRecord i c).ceilings = s.ceilings := rfl
@[simp] theorem State.setRecord_mailboxes (i : RecNo) (c : Option Claim) : (s.setRecord i c).mailboxes = s.mailboxes := rfl
@[simp] theorem State.setRecord_waitList (i : RecNo) (c : Option Claim) : (s.setRecord i c).waitList = s.waitList := rfl
@[simp] theorem State.setRecord_scan (i : RecNo) (c : Option Claim) : (s.setRecord i c).scan = s.scan := rfl
@[simp] theorem State.setRecord_holds (i : RecNo) (c : Option Claim) : (s.setRecord i c).holds = s.holds := rfl
@[simp] theorem State.setRecord_hyd (i : RecNo) (c : Option Claim) : (s.setRecord i c).hyd = s.hyd := rfl
@[simp] theorem State.setRecord_slew (i : RecNo) (c : Option Claim) : (s.setRecord i c).slew = s.slew := rfl
@[simp] theorem State.setRecord_capture (i : RecNo) (c : Option Claim) : (s.setRecord i c).capture = s.capture := rfl
@[simp] theorem State.setRecord_second (i : RecNo) (c : Option Claim) : (s.setRecord i c).second = s.second := rfl
@[simp] theorem State.setRecord_mpFifo (i : RecNo) (c : Option Claim) : (s.setRecord i c).mpFifo = s.mpFifo := rfl
@[simp] theorem State.setRecord_mpPort (i : RecNo) (c : Option Claim) : (s.setRecord i c).mpPort = s.mpPort := rfl
@[simp] theorem State.setRecord_mpTx (i : RecNo) (c : Option Claim) : (s.setRecord i c).mpTx = s.mpTx := rfl
@[simp] theorem State.setRecord_permit (i : RecNo) (c : Option Claim) : (s.setRecord i c).permit = s.permit := rfl
@[simp] theorem State.setRecord_cpFifo (i : RecNo) (c : Option Claim) : (s.setRecord i c).cpFifo = s.cpFifo := rfl
@[simp] theorem State.setRecord_replies (i : RecNo) (c : Option Claim) : (s.setRecord i c).replies = s.replies := rfl
@[simp] theorem State.setRecord_cpPort (i : RecNo) (c : Option Claim) : (s.setRecord i c).cpPort = s.cpPort := rfl
@[simp] theorem State.setRecord_cpTx (i : RecNo) (c : Option Claim) : (s.setRecord i c).cpTx = s.cpTx := rfl
@[simp] theorem State.setRecord_cursor (i : RecNo) (c : Option Claim) : (s.setRecord i c).cursor = s.cursor := rfl
@[simp] theorem State.setRecord_flags (i : RecNo) (c : Option Claim) : (s.setRecord i c).flags = s.flags := rfl
@[simp] theorem State.setRecord_enables (i : RecNo) (c : Option Claim) : (s.setRecord i c).enables = s.enables := rfl
@[simp] theorem State.setRecord_attn (i : RecNo) (c : Option Claim) : (s.setRecord i c).attn = s.attn := rfl
@[simp] theorem State.setRecord_pending (i : RecNo) (c : Option Claim) : (s.setRecord i c).pending = s.pending := rfl

/-! ### setMailbox -/

@[simp] theorem State.setMailbox_resetHeld (h : Handle) (m : Mailbox) : (s.setMailbox h m).resetHeld = s.resetHeld := rfl
@[simp] theorem State.setMailbox_stopnLow (h : Handle) (m : Mailbox) : (s.setMailbox h m).stopnLow = s.stopnLow := rfl
@[simp] theorem State.setMailbox_mode (h : Handle) (m : Mailbox) : (s.setMailbox h m).mode = s.mode := rfl
@[simp] theorem State.setMailbox_tiers (h : Handle) (m : Mailbox) : (s.setMailbox h m).tiers = s.tiers := rfl
@[simp] theorem State.setMailbox_globals (h : Handle) (m : Mailbox) : (s.setMailbox h m).globals = s.globals := rfl
@[simp] theorem State.setMailbox_ceilings (h : Handle) (m : Mailbox) : (s.setMailbox h m).ceilings = s.ceilings := rfl
@[simp] theorem State.setMailbox_records (h : Handle) (m : Mailbox) : (s.setMailbox h m).records = s.records := rfl
@[simp] theorem State.setMailbox_waitList (h : Handle) (m : Mailbox) : (s.setMailbox h m).waitList = s.waitList := rfl
@[simp] theorem State.setMailbox_scan (h : Handle) (m : Mailbox) : (s.setMailbox h m).scan = s.scan := rfl
@[simp] theorem State.setMailbox_holds (h : Handle) (m : Mailbox) : (s.setMailbox h m).holds = s.holds := rfl
@[simp] theorem State.setMailbox_hyd (h : Handle) (m : Mailbox) : (s.setMailbox h m).hyd = s.hyd := rfl
@[simp] theorem State.setMailbox_slew (h : Handle) (m : Mailbox) : (s.setMailbox h m).slew = s.slew := rfl
@[simp] theorem State.setMailbox_capture (h : Handle) (m : Mailbox) : (s.setMailbox h m).capture = s.capture := rfl
@[simp] theorem State.setMailbox_second (h : Handle) (m : Mailbox) : (s.setMailbox h m).second = s.second := rfl
@[simp] theorem State.setMailbox_mpFifo (h : Handle) (m : Mailbox) : (s.setMailbox h m).mpFifo = s.mpFifo := rfl
@[simp] theorem State.setMailbox_mpPort (h : Handle) (m : Mailbox) : (s.setMailbox h m).mpPort = s.mpPort := rfl
@[simp] theorem State.setMailbox_mpTx (h : Handle) (m : Mailbox) : (s.setMailbox h m).mpTx = s.mpTx := rfl
@[simp] theorem State.setMailbox_permit (h : Handle) (m : Mailbox) : (s.setMailbox h m).permit = s.permit := rfl
@[simp] theorem State.setMailbox_cpFifo (h : Handle) (m : Mailbox) : (s.setMailbox h m).cpFifo = s.cpFifo := rfl
@[simp] theorem State.setMailbox_replies (h : Handle) (m : Mailbox) : (s.setMailbox h m).replies = s.replies := rfl
@[simp] theorem State.setMailbox_cpPort (h : Handle) (m : Mailbox) : (s.setMailbox h m).cpPort = s.cpPort := rfl
@[simp] theorem State.setMailbox_cpTx (h : Handle) (m : Mailbox) : (s.setMailbox h m).cpTx = s.cpTx := rfl
@[simp] theorem State.setMailbox_cursor (h : Handle) (m : Mailbox) : (s.setMailbox h m).cursor = s.cursor := rfl
@[simp] theorem State.setMailbox_flags (h : Handle) (m : Mailbox) : (s.setMailbox h m).flags = s.flags := rfl
@[simp] theorem State.setMailbox_enables (h : Handle) (m : Mailbox) : (s.setMailbox h m).enables = s.enables := rfl
@[simp] theorem State.setMailbox_attn (h : Handle) (m : Mailbox) : (s.setMailbox h m).attn = s.attn := rfl
@[simp] theorem State.setMailbox_pending (h : Handle) (m : Mailbox) : (s.setMailbox h m).pending = s.pending := rfl

/-! ### setPermit -/

@[simp] theorem State.setPermit_resetHeld (t : TierNo) (b : Bool) : (s.setPermit t b).resetHeld = s.resetHeld := rfl
@[simp] theorem State.setPermit_stopnLow (t : TierNo) (b : Bool) : (s.setPermit t b).stopnLow = s.stopnLow := rfl
@[simp] theorem State.setPermit_mode (t : TierNo) (b : Bool) : (s.setPermit t b).mode = s.mode := rfl
@[simp] theorem State.setPermit_tiers (t : TierNo) (b : Bool) : (s.setPermit t b).tiers = s.tiers := rfl
@[simp] theorem State.setPermit_globals (t : TierNo) (b : Bool) : (s.setPermit t b).globals = s.globals := rfl
@[simp] theorem State.setPermit_ceilings (t : TierNo) (b : Bool) : (s.setPermit t b).ceilings = s.ceilings := rfl
@[simp] theorem State.setPermit_records (t : TierNo) (b : Bool) : (s.setPermit t b).records = s.records := rfl
@[simp] theorem State.setPermit_mailboxes (t : TierNo) (b : Bool) : (s.setPermit t b).mailboxes = s.mailboxes := rfl
@[simp] theorem State.setPermit_waitList (t : TierNo) (b : Bool) : (s.setPermit t b).waitList = s.waitList := rfl
@[simp] theorem State.setPermit_scan (t : TierNo) (b : Bool) : (s.setPermit t b).scan = s.scan := rfl
@[simp] theorem State.setPermit_holds (t : TierNo) (b : Bool) : (s.setPermit t b).holds = s.holds := rfl
@[simp] theorem State.setPermit_hyd (t : TierNo) (b : Bool) : (s.setPermit t b).hyd = s.hyd := rfl
@[simp] theorem State.setPermit_slew (t : TierNo) (b : Bool) : (s.setPermit t b).slew = s.slew := rfl
@[simp] theorem State.setPermit_capture (t : TierNo) (b : Bool) : (s.setPermit t b).capture = s.capture := rfl
@[simp] theorem State.setPermit_second (t : TierNo) (b : Bool) : (s.setPermit t b).second = s.second := rfl
@[simp] theorem State.setPermit_mpFifo (t : TierNo) (b : Bool) : (s.setPermit t b).mpFifo = s.mpFifo := rfl
@[simp] theorem State.setPermit_mpPort (t : TierNo) (b : Bool) : (s.setPermit t b).mpPort = s.mpPort := rfl
@[simp] theorem State.setPermit_mpTx (t : TierNo) (b : Bool) : (s.setPermit t b).mpTx = s.mpTx := rfl
@[simp] theorem State.setPermit_cpFifo (t : TierNo) (b : Bool) : (s.setPermit t b).cpFifo = s.cpFifo := rfl
@[simp] theorem State.setPermit_replies (t : TierNo) (b : Bool) : (s.setPermit t b).replies = s.replies := rfl
@[simp] theorem State.setPermit_cpPort (t : TierNo) (b : Bool) : (s.setPermit t b).cpPort = s.cpPort := rfl
@[simp] theorem State.setPermit_cpTx (t : TierNo) (b : Bool) : (s.setPermit t b).cpTx = s.cpTx := rfl
@[simp] theorem State.setPermit_cursor (t : TierNo) (b : Bool) : (s.setPermit t b).cursor = s.cursor := rfl
@[simp] theorem State.setPermit_flags (t : TierNo) (b : Bool) : (s.setPermit t b).flags = s.flags := rfl
@[simp] theorem State.setPermit_enables (t : TierNo) (b : Bool) : (s.setPermit t b).enables = s.enables := rfl
@[simp] theorem State.setPermit_attn (t : TierNo) (b : Bool) : (s.setPermit t b).attn = s.attn := rfl
@[simp] theorem State.setPermit_pending (t : TierNo) (b : Bool) : (s.setPermit t b).pending = s.pending := rfl

/-! ### setHold -/

@[simp] theorem State.setHold_resetHeld (k : HoldNo) (a : Option Arc) : (s.setHold k a).resetHeld = s.resetHeld := rfl
@[simp] theorem State.setHold_stopnLow (k : HoldNo) (a : Option Arc) : (s.setHold k a).stopnLow = s.stopnLow := rfl
@[simp] theorem State.setHold_mode (k : HoldNo) (a : Option Arc) : (s.setHold k a).mode = s.mode := rfl
@[simp] theorem State.setHold_tiers (k : HoldNo) (a : Option Arc) : (s.setHold k a).tiers = s.tiers := rfl
@[simp] theorem State.setHold_globals (k : HoldNo) (a : Option Arc) : (s.setHold k a).globals = s.globals := rfl
@[simp] theorem State.setHold_ceilings (k : HoldNo) (a : Option Arc) : (s.setHold k a).ceilings = s.ceilings := rfl
@[simp] theorem State.setHold_records (k : HoldNo) (a : Option Arc) : (s.setHold k a).records = s.records := rfl
@[simp] theorem State.setHold_mailboxes (k : HoldNo) (a : Option Arc) : (s.setHold k a).mailboxes = s.mailboxes := rfl
@[simp] theorem State.setHold_waitList (k : HoldNo) (a : Option Arc) : (s.setHold k a).waitList = s.waitList := rfl
@[simp] theorem State.setHold_scan (k : HoldNo) (a : Option Arc) : (s.setHold k a).scan = s.scan := rfl
@[simp] theorem State.setHold_hyd (k : HoldNo) (a : Option Arc) : (s.setHold k a).hyd = s.hyd := rfl
@[simp] theorem State.setHold_slew (k : HoldNo) (a : Option Arc) : (s.setHold k a).slew = s.slew := rfl
@[simp] theorem State.setHold_capture (k : HoldNo) (a : Option Arc) : (s.setHold k a).capture = s.capture := rfl
@[simp] theorem State.setHold_second (k : HoldNo) (a : Option Arc) : (s.setHold k a).second = s.second := rfl
@[simp] theorem State.setHold_mpFifo (k : HoldNo) (a : Option Arc) : (s.setHold k a).mpFifo = s.mpFifo := rfl
@[simp] theorem State.setHold_mpPort (k : HoldNo) (a : Option Arc) : (s.setHold k a).mpPort = s.mpPort := rfl
@[simp] theorem State.setHold_mpTx (k : HoldNo) (a : Option Arc) : (s.setHold k a).mpTx = s.mpTx := rfl
@[simp] theorem State.setHold_permit (k : HoldNo) (a : Option Arc) : (s.setHold k a).permit = s.permit := rfl
@[simp] theorem State.setHold_cpFifo (k : HoldNo) (a : Option Arc) : (s.setHold k a).cpFifo = s.cpFifo := rfl
@[simp] theorem State.setHold_replies (k : HoldNo) (a : Option Arc) : (s.setHold k a).replies = s.replies := rfl
@[simp] theorem State.setHold_cpPort (k : HoldNo) (a : Option Arc) : (s.setHold k a).cpPort = s.cpPort := rfl
@[simp] theorem State.setHold_cpTx (k : HoldNo) (a : Option Arc) : (s.setHold k a).cpTx = s.cpTx := rfl
@[simp] theorem State.setHold_cursor (k : HoldNo) (a : Option Arc) : (s.setHold k a).cursor = s.cursor := rfl
@[simp] theorem State.setHold_flags (k : HoldNo) (a : Option Arc) : (s.setHold k a).flags = s.flags := rfl
@[simp] theorem State.setHold_enables (k : HoldNo) (a : Option Arc) : (s.setHold k a).enables = s.enables := rfl
@[simp] theorem State.setHold_attn (k : HoldNo) (a : Option Arc) : (s.setHold k a).attn = s.attn := rfl
@[simp] theorem State.setHold_pending (k : HoldNo) (a : Option Arc) : (s.setHold k a).pending = s.pending := rfl

/-! ### unmark -/

@[simp] theorem State.unmark_resetHeld (i : RecNo) : (s.unmark i).resetHeld = s.resetHeld := rfl
@[simp] theorem State.unmark_stopnLow (i : RecNo) : (s.unmark i).stopnLow = s.stopnLow := rfl
@[simp] theorem State.unmark_mode (i : RecNo) : (s.unmark i).mode = s.mode := rfl
@[simp] theorem State.unmark_tiers (i : RecNo) : (s.unmark i).tiers = s.tiers := rfl
@[simp] theorem State.unmark_globals (i : RecNo) : (s.unmark i).globals = s.globals := rfl
@[simp] theorem State.unmark_ceilings (i : RecNo) : (s.unmark i).ceilings = s.ceilings := rfl
@[simp] theorem State.unmark_records (i : RecNo) : (s.unmark i).records = s.records := rfl
@[simp] theorem State.unmark_mailboxes (i : RecNo) : (s.unmark i).mailboxes = s.mailboxes := rfl
@[simp] theorem State.unmark_waitList (i : RecNo) : (s.unmark i).waitList = s.waitList := rfl
@[simp] theorem State.unmark_holds (i : RecNo) : (s.unmark i).holds = s.holds := rfl
@[simp] theorem State.unmark_hyd (i : RecNo) : (s.unmark i).hyd = s.hyd := rfl
@[simp] theorem State.unmark_slew (i : RecNo) : (s.unmark i).slew = s.slew := rfl
@[simp] theorem State.unmark_capture (i : RecNo) : (s.unmark i).capture = s.capture := rfl
@[simp] theorem State.unmark_second (i : RecNo) : (s.unmark i).second = s.second := rfl
@[simp] theorem State.unmark_mpFifo (i : RecNo) : (s.unmark i).mpFifo = s.mpFifo := rfl
@[simp] theorem State.unmark_mpPort (i : RecNo) : (s.unmark i).mpPort = s.mpPort := rfl
@[simp] theorem State.unmark_mpTx (i : RecNo) : (s.unmark i).mpTx = s.mpTx := rfl
@[simp] theorem State.unmark_permit (i : RecNo) : (s.unmark i).permit = s.permit := rfl
@[simp] theorem State.unmark_cpFifo (i : RecNo) : (s.unmark i).cpFifo = s.cpFifo := rfl
@[simp] theorem State.unmark_replies (i : RecNo) : (s.unmark i).replies = s.replies := rfl
@[simp] theorem State.unmark_cpPort (i : RecNo) : (s.unmark i).cpPort = s.cpPort := rfl
@[simp] theorem State.unmark_cpTx (i : RecNo) : (s.unmark i).cpTx = s.cpTx := rfl
@[simp] theorem State.unmark_cursor (i : RecNo) : (s.unmark i).cursor = s.cursor := rfl
@[simp] theorem State.unmark_flags (i : RecNo) : (s.unmark i).flags = s.flags := rfl
@[simp] theorem State.unmark_enables (i : RecNo) : (s.unmark i).enables = s.enables := rfl
@[simp] theorem State.unmark_attn (i : RecNo) : (s.unmark i).attn = s.attn := rfl
@[simp] theorem State.unmark_pending (i : RecNo) : (s.unmark i).pending = s.pending := rfl

/-! ### post -/

@[simp] theorem State.post_resetHeld (h : Handle) (st : ClaimState) (r : Result) : (s.post h st r).resetHeld = s.resetHeld := rfl
@[simp] theorem State.post_stopnLow (h : Handle) (st : ClaimState) (r : Result) : (s.post h st r).stopnLow = s.stopnLow := rfl
@[simp] theorem State.post_mode (h : Handle) (st : ClaimState) (r : Result) : (s.post h st r).mode = s.mode := rfl
@[simp] theorem State.post_tiers (h : Handle) (st : ClaimState) (r : Result) : (s.post h st r).tiers = s.tiers := rfl
@[simp] theorem State.post_globals (h : Handle) (st : ClaimState) (r : Result) : (s.post h st r).globals = s.globals := rfl
@[simp] theorem State.post_ceilings (h : Handle) (st : ClaimState) (r : Result) : (s.post h st r).ceilings = s.ceilings := rfl
@[simp] theorem State.post_records (h : Handle) (st : ClaimState) (r : Result) : (s.post h st r).records = s.records := rfl
@[simp] theorem State.post_waitList (h : Handle) (st : ClaimState) (r : Result) : (s.post h st r).waitList = s.waitList := rfl
@[simp] theorem State.post_scan (h : Handle) (st : ClaimState) (r : Result) : (s.post h st r).scan = s.scan := rfl
@[simp] theorem State.post_holds (h : Handle) (st : ClaimState) (r : Result) : (s.post h st r).holds = s.holds := rfl
@[simp] theorem State.post_hyd (h : Handle) (st : ClaimState) (r : Result) : (s.post h st r).hyd = s.hyd := rfl
@[simp] theorem State.post_slew (h : Handle) (st : ClaimState) (r : Result) : (s.post h st r).slew = s.slew := rfl
@[simp] theorem State.post_capture (h : Handle) (st : ClaimState) (r : Result) : (s.post h st r).capture = s.capture := rfl
@[simp] theorem State.post_second (h : Handle) (st : ClaimState) (r : Result) : (s.post h st r).second = s.second := rfl
@[simp] theorem State.post_mpFifo (h : Handle) (st : ClaimState) (r : Result) : (s.post h st r).mpFifo = s.mpFifo := rfl
@[simp] theorem State.post_mpPort (h : Handle) (st : ClaimState) (r : Result) : (s.post h st r).mpPort = s.mpPort := rfl
@[simp] theorem State.post_mpTx (h : Handle) (st : ClaimState) (r : Result) : (s.post h st r).mpTx = s.mpTx := rfl
@[simp] theorem State.post_permit (h : Handle) (st : ClaimState) (r : Result) : (s.post h st r).permit = s.permit := rfl
@[simp] theorem State.post_cpFifo (h : Handle) (st : ClaimState) (r : Result) : (s.post h st r).cpFifo = s.cpFifo := rfl
@[simp] theorem State.post_replies (h : Handle) (st : ClaimState) (r : Result) : (s.post h st r).replies = s.replies := rfl
@[simp] theorem State.post_cpPort (h : Handle) (st : ClaimState) (r : Result) : (s.post h st r).cpPort = s.cpPort := rfl
@[simp] theorem State.post_cpTx (h : Handle) (st : ClaimState) (r : Result) : (s.post h st r).cpTx = s.cpTx := rfl
@[simp] theorem State.post_cursor (h : Handle) (st : ClaimState) (r : Result) : (s.post h st r).cursor = s.cursor := rfl
@[simp] theorem State.post_flags (h : Handle) (st : ClaimState) (r : Result) : (s.post h st r).flags = s.flags := rfl
@[simp] theorem State.post_enables (h : Handle) (st : ClaimState) (r : Result) : (s.post h st r).enables = s.enables := rfl
@[simp] theorem State.post_attn (h : Handle) (st : ClaimState) (r : Result) : (s.post h st r).attn = s.attn := rfl
@[simp] theorem State.post_pending (h : Handle) (st : ClaimState) (r : Result) : (s.post h st r).pending = s.pending := rfl

/-! ### repend -/

@[simp] theorem State.repend_resetHeld (h : Handle) : (s.repend h).resetHeld = s.resetHeld := rfl
@[simp] theorem State.repend_stopnLow (h : Handle) : (s.repend h).stopnLow = s.stopnLow := rfl
@[simp] theorem State.repend_mode (h : Handle) : (s.repend h).mode = s.mode := rfl
@[simp] theorem State.repend_tiers (h : Handle) : (s.repend h).tiers = s.tiers := rfl
@[simp] theorem State.repend_globals (h : Handle) : (s.repend h).globals = s.globals := rfl
@[simp] theorem State.repend_ceilings (h : Handle) : (s.repend h).ceilings = s.ceilings := rfl
@[simp] theorem State.repend_records (h : Handle) : (s.repend h).records = s.records := rfl
@[simp] theorem State.repend_waitList (h : Handle) : (s.repend h).waitList = s.waitList := rfl
@[simp] theorem State.repend_scan (h : Handle) : (s.repend h).scan = s.scan := rfl
@[simp] theorem State.repend_holds (h : Handle) : (s.repend h).holds = s.holds := rfl
@[simp] theorem State.repend_hyd (h : Handle) : (s.repend h).hyd = s.hyd := rfl
@[simp] theorem State.repend_slew (h : Handle) : (s.repend h).slew = s.slew := rfl
@[simp] theorem State.repend_capture (h : Handle) : (s.repend h).capture = s.capture := rfl
@[simp] theorem State.repend_second (h : Handle) : (s.repend h).second = s.second := rfl
@[simp] theorem State.repend_mpFifo (h : Handle) : (s.repend h).mpFifo = s.mpFifo := rfl
@[simp] theorem State.repend_mpPort (h : Handle) : (s.repend h).mpPort = s.mpPort := rfl
@[simp] theorem State.repend_mpTx (h : Handle) : (s.repend h).mpTx = s.mpTx := rfl
@[simp] theorem State.repend_permit (h : Handle) : (s.repend h).permit = s.permit := rfl
@[simp] theorem State.repend_cpFifo (h : Handle) : (s.repend h).cpFifo = s.cpFifo := rfl
@[simp] theorem State.repend_replies (h : Handle) : (s.repend h).replies = s.replies := rfl
@[simp] theorem State.repend_cpPort (h : Handle) : (s.repend h).cpPort = s.cpPort := rfl
@[simp] theorem State.repend_cpTx (h : Handle) : (s.repend h).cpTx = s.cpTx := rfl
@[simp] theorem State.repend_cursor (h : Handle) : (s.repend h).cursor = s.cursor := rfl
@[simp] theorem State.repend_flags (h : Handle) : (s.repend h).flags = s.flags := rfl
@[simp] theorem State.repend_enables (h : Handle) : (s.repend h).enables = s.enables := rfl
@[simp] theorem State.repend_attn (h : Handle) : (s.repend h).attn = s.attn := rfl
@[simp] theorem State.repend_pending (h : Handle) : (s.repend h).pending = s.pending := rfl

/-! ### endScan -/

@[simp] theorem State.endScan_resetHeld : (s.endScan).resetHeld = s.resetHeld := rfl
@[simp] theorem State.endScan_stopnLow : (s.endScan).stopnLow = s.stopnLow := rfl
@[simp] theorem State.endScan_mode : (s.endScan).mode = s.mode := rfl
@[simp] theorem State.endScan_tiers : (s.endScan).tiers = s.tiers := rfl
@[simp] theorem State.endScan_globals : (s.endScan).globals = s.globals := rfl
@[simp] theorem State.endScan_ceilings : (s.endScan).ceilings = s.ceilings := rfl
@[simp] theorem State.endScan_records : (s.endScan).records = s.records := rfl
@[simp] theorem State.endScan_mailboxes : (s.endScan).mailboxes = s.mailboxes := rfl
@[simp] theorem State.endScan_waitList : (s.endScan).waitList = s.waitList := rfl
@[simp] theorem State.endScan_holds : (s.endScan).holds = s.holds := rfl
@[simp] theorem State.endScan_hyd : (s.endScan).hyd = s.hyd := rfl
@[simp] theorem State.endScan_slew : (s.endScan).slew = s.slew := rfl
@[simp] theorem State.endScan_capture : (s.endScan).capture = s.capture := rfl
@[simp] theorem State.endScan_second : (s.endScan).second = s.second := rfl
@[simp] theorem State.endScan_mpFifo : (s.endScan).mpFifo = s.mpFifo := rfl
@[simp] theorem State.endScan_mpPort : (s.endScan).mpPort = s.mpPort := rfl
@[simp] theorem State.endScan_mpTx : (s.endScan).mpTx = s.mpTx := rfl
@[simp] theorem State.endScan_permit : (s.endScan).permit = s.permit := rfl
@[simp] theorem State.endScan_cpFifo : (s.endScan).cpFifo = s.cpFifo := rfl
@[simp] theorem State.endScan_replies : (s.endScan).replies = s.replies := rfl
@[simp] theorem State.endScan_cpPort : (s.endScan).cpPort = s.cpPort := rfl
@[simp] theorem State.endScan_cpTx : (s.endScan).cpTx = s.cpTx := rfl
@[simp] theorem State.endScan_cursor : (s.endScan).cursor = s.cursor := rfl
@[simp] theorem State.endScan_flags : (s.endScan).flags = s.flags := rfl
@[simp] theorem State.endScan_enables : (s.endScan).enables = s.enables := rfl
@[simp] theorem State.endScan_attn : (s.endScan).attn = s.attn := rfl
@[simp] theorem State.endScan_pending : (s.endScan).pending = s.pending := rfl

/-! ### drawPools -/

@[simp] theorem State.drawPools_resetHeld (g : Grant) : (s.drawPools g).resetHeld = s.resetHeld := rfl
@[simp] theorem State.drawPools_stopnLow (g : Grant) : (s.drawPools g).stopnLow = s.stopnLow := rfl
@[simp] theorem State.drawPools_mode (g : Grant) : (s.drawPools g).mode = s.mode := rfl
@[simp] theorem State.drawPools_tiers (g : Grant) : (s.drawPools g).tiers = s.tiers := rfl
@[simp] theorem State.drawPools_globals (g : Grant) : (s.drawPools g).globals = s.globals := rfl
@[simp] theorem State.drawPools_ceilings (g : Grant) : (s.drawPools g).ceilings = s.ceilings := rfl
@[simp] theorem State.drawPools_records (g : Grant) : (s.drawPools g).records = s.records := rfl
@[simp] theorem State.drawPools_mailboxes (g : Grant) : (s.drawPools g).mailboxes = s.mailboxes := rfl
@[simp] theorem State.drawPools_waitList (g : Grant) : (s.drawPools g).waitList = s.waitList := rfl
@[simp] theorem State.drawPools_scan (g : Grant) : (s.drawPools g).scan = s.scan := rfl
@[simp] theorem State.drawPools_holds (g : Grant) : (s.drawPools g).holds = s.holds := rfl
@[simp] theorem State.drawPools_capture (g : Grant) : (s.drawPools g).capture = s.capture := rfl
@[simp] theorem State.drawPools_second (g : Grant) : (s.drawPools g).second = s.second := rfl
@[simp] theorem State.drawPools_mpFifo (g : Grant) : (s.drawPools g).mpFifo = s.mpFifo := rfl
@[simp] theorem State.drawPools_mpPort (g : Grant) : (s.drawPools g).mpPort = s.mpPort := rfl
@[simp] theorem State.drawPools_mpTx (g : Grant) : (s.drawPools g).mpTx = s.mpTx := rfl
@[simp] theorem State.drawPools_permit (g : Grant) : (s.drawPools g).permit = s.permit := rfl
@[simp] theorem State.drawPools_cpFifo (g : Grant) : (s.drawPools g).cpFifo = s.cpFifo := rfl
@[simp] theorem State.drawPools_replies (g : Grant) : (s.drawPools g).replies = s.replies := rfl
@[simp] theorem State.drawPools_cpPort (g : Grant) : (s.drawPools g).cpPort = s.cpPort := rfl
@[simp] theorem State.drawPools_cpTx (g : Grant) : (s.drawPools g).cpTx = s.cpTx := rfl
@[simp] theorem State.drawPools_cursor (g : Grant) : (s.drawPools g).cursor = s.cursor := rfl
@[simp] theorem State.drawPools_flags (g : Grant) : (s.drawPools g).flags = s.flags := rfl
@[simp] theorem State.drawPools_enables (g : Grant) : (s.drawPools g).enables = s.enables := rfl
@[simp] theorem State.drawPools_attn (g : Grant) : (s.drawPools g).attn = s.attn := rfl
@[simp] theorem State.drawPools_pending (g : Grant) : (s.drawPools g).pending = s.pending := rfl

/-! ### returnPools -/

@[simp] theorem State.returnPools_resetHeld (g : Grant) : (s.returnPools g).resetHeld = s.resetHeld := rfl
@[simp] theorem State.returnPools_stopnLow (g : Grant) : (s.returnPools g).stopnLow = s.stopnLow := rfl
@[simp] theorem State.returnPools_mode (g : Grant) : (s.returnPools g).mode = s.mode := rfl
@[simp] theorem State.returnPools_tiers (g : Grant) : (s.returnPools g).tiers = s.tiers := rfl
@[simp] theorem State.returnPools_globals (g : Grant) : (s.returnPools g).globals = s.globals := rfl
@[simp] theorem State.returnPools_ceilings (g : Grant) : (s.returnPools g).ceilings = s.ceilings := rfl
@[simp] theorem State.returnPools_records (g : Grant) : (s.returnPools g).records = s.records := rfl
@[simp] theorem State.returnPools_mailboxes (g : Grant) : (s.returnPools g).mailboxes = s.mailboxes := rfl
@[simp] theorem State.returnPools_waitList (g : Grant) : (s.returnPools g).waitList = s.waitList := rfl
@[simp] theorem State.returnPools_scan (g : Grant) : (s.returnPools g).scan = s.scan := rfl
@[simp] theorem State.returnPools_holds (g : Grant) : (s.returnPools g).holds = s.holds := rfl
@[simp] theorem State.returnPools_capture (g : Grant) : (s.returnPools g).capture = s.capture := rfl
@[simp] theorem State.returnPools_second (g : Grant) : (s.returnPools g).second = s.second := rfl
@[simp] theorem State.returnPools_mpFifo (g : Grant) : (s.returnPools g).mpFifo = s.mpFifo := rfl
@[simp] theorem State.returnPools_mpPort (g : Grant) : (s.returnPools g).mpPort = s.mpPort := rfl
@[simp] theorem State.returnPools_mpTx (g : Grant) : (s.returnPools g).mpTx = s.mpTx := rfl
@[simp] theorem State.returnPools_permit (g : Grant) : (s.returnPools g).permit = s.permit := rfl
@[simp] theorem State.returnPools_cpFifo (g : Grant) : (s.returnPools g).cpFifo = s.cpFifo := rfl
@[simp] theorem State.returnPools_replies (g : Grant) : (s.returnPools g).replies = s.replies := rfl
@[simp] theorem State.returnPools_cpPort (g : Grant) : (s.returnPools g).cpPort = s.cpPort := rfl
@[simp] theorem State.returnPools_cpTx (g : Grant) : (s.returnPools g).cpTx = s.cpTx := rfl
@[simp] theorem State.returnPools_cursor (g : Grant) : (s.returnPools g).cursor = s.cursor := rfl
@[simp] theorem State.returnPools_flags (g : Grant) : (s.returnPools g).flags = s.flags := rfl
@[simp] theorem State.returnPools_enables (g : Grant) : (s.returnPools g).enables = s.enables := rfl
@[simp] theorem State.returnPools_attn (g : Grant) : (s.returnPools g).attn = s.attn := rfl
@[simp] theorem State.returnPools_pending (g : Grant) : (s.returnPools g).pending = s.pending := rfl

/-! ### stopLease -/

@[simp] theorem State.stopLease_resetHeld (t : TierNo) : (s.stopLease t).resetHeld = s.resetHeld := rfl
@[simp] theorem State.stopLease_stopnLow (t : TierNo) : (s.stopLease t).stopnLow = s.stopnLow := rfl
@[simp] theorem State.stopLease_mode (t : TierNo) : (s.stopLease t).mode = s.mode := rfl
@[simp] theorem State.stopLease_globals (t : TierNo) : (s.stopLease t).globals = s.globals := rfl
@[simp] theorem State.stopLease_ceilings (t : TierNo) : (s.stopLease t).ceilings = s.ceilings := rfl
@[simp] theorem State.stopLease_records (t : TierNo) : (s.stopLease t).records = s.records := rfl
@[simp] theorem State.stopLease_mailboxes (t : TierNo) : (s.stopLease t).mailboxes = s.mailboxes := rfl
@[simp] theorem State.stopLease_waitList (t : TierNo) : (s.stopLease t).waitList = s.waitList := rfl
@[simp] theorem State.stopLease_scan (t : TierNo) : (s.stopLease t).scan = s.scan := rfl
@[simp] theorem State.stopLease_holds (t : TierNo) : (s.stopLease t).holds = s.holds := rfl
@[simp] theorem State.stopLease_hyd (t : TierNo) : (s.stopLease t).hyd = s.hyd := rfl
@[simp] theorem State.stopLease_slew (t : TierNo) : (s.stopLease t).slew = s.slew := rfl
@[simp] theorem State.stopLease_capture (t : TierNo) : (s.stopLease t).capture = s.capture := rfl
@[simp] theorem State.stopLease_second (t : TierNo) : (s.stopLease t).second = s.second := rfl
@[simp] theorem State.stopLease_mpFifo (t : TierNo) : (s.stopLease t).mpFifo = s.mpFifo := rfl
@[simp] theorem State.stopLease_mpPort (t : TierNo) : (s.stopLease t).mpPort = s.mpPort := rfl
@[simp] theorem State.stopLease_mpTx (t : TierNo) : (s.stopLease t).mpTx = s.mpTx := rfl
@[simp] theorem State.stopLease_permit (t : TierNo) : (s.stopLease t).permit = s.permit := rfl
@[simp] theorem State.stopLease_cpFifo (t : TierNo) : (s.stopLease t).cpFifo = s.cpFifo := rfl
@[simp] theorem State.stopLease_replies (t : TierNo) : (s.stopLease t).replies = s.replies := rfl
@[simp] theorem State.stopLease_cpPort (t : TierNo) : (s.stopLease t).cpPort = s.cpPort := rfl
@[simp] theorem State.stopLease_cpTx (t : TierNo) : (s.stopLease t).cpTx = s.cpTx := rfl
@[simp] theorem State.stopLease_cursor (t : TierNo) : (s.stopLease t).cursor = s.cursor := rfl
@[simp] theorem State.stopLease_flags (t : TierNo) : (s.stopLease t).flags = s.flags := rfl
@[simp] theorem State.stopLease_enables (t : TierNo) : (s.stopLease t).enables = s.enables := rfl
@[simp] theorem State.stopLease_attn (t : TierNo) : (s.stopLease t).attn = s.attn := rfl
@[simp] theorem State.stopLease_pending (t : TierNo) : (s.stopLease t).pending = s.pending := rfl

/-! ### placeAt -/

@[simp] theorem State.placeAt_resetHeld (t : TierNo) (p : Pose) (a : Arc) : (s.placeAt t p a).resetHeld = s.resetHeld := rfl
@[simp] theorem State.placeAt_stopnLow (t : TierNo) (p : Pose) (a : Arc) : (s.placeAt t p a).stopnLow = s.stopnLow := rfl
@[simp] theorem State.placeAt_mode (t : TierNo) (p : Pose) (a : Arc) : (s.placeAt t p a).mode = s.mode := rfl
@[simp] theorem State.placeAt_globals (t : TierNo) (p : Pose) (a : Arc) : (s.placeAt t p a).globals = s.globals := rfl
@[simp] theorem State.placeAt_ceilings (t : TierNo) (p : Pose) (a : Arc) : (s.placeAt t p a).ceilings = s.ceilings := rfl
@[simp] theorem State.placeAt_records (t : TierNo) (p : Pose) (a : Arc) : (s.placeAt t p a).records = s.records := rfl
@[simp] theorem State.placeAt_mailboxes (t : TierNo) (p : Pose) (a : Arc) : (s.placeAt t p a).mailboxes = s.mailboxes := rfl
@[simp] theorem State.placeAt_waitList (t : TierNo) (p : Pose) (a : Arc) : (s.placeAt t p a).waitList = s.waitList := rfl
@[simp] theorem State.placeAt_scan (t : TierNo) (p : Pose) (a : Arc) : (s.placeAt t p a).scan = s.scan := rfl
@[simp] theorem State.placeAt_holds (t : TierNo) (p : Pose) (a : Arc) : (s.placeAt t p a).holds = s.holds := rfl
@[simp] theorem State.placeAt_hyd (t : TierNo) (p : Pose) (a : Arc) : (s.placeAt t p a).hyd = s.hyd := rfl
@[simp] theorem State.placeAt_slew (t : TierNo) (p : Pose) (a : Arc) : (s.placeAt t p a).slew = s.slew := rfl
@[simp] theorem State.placeAt_capture (t : TierNo) (p : Pose) (a : Arc) : (s.placeAt t p a).capture = s.capture := rfl
@[simp] theorem State.placeAt_second (t : TierNo) (p : Pose) (a : Arc) : (s.placeAt t p a).second = s.second := rfl
@[simp] theorem State.placeAt_mpFifo (t : TierNo) (p : Pose) (a : Arc) : (s.placeAt t p a).mpFifo = s.mpFifo := rfl
@[simp] theorem State.placeAt_mpPort (t : TierNo) (p : Pose) (a : Arc) : (s.placeAt t p a).mpPort = s.mpPort := rfl
@[simp] theorem State.placeAt_mpTx (t : TierNo) (p : Pose) (a : Arc) : (s.placeAt t p a).mpTx = s.mpTx := rfl
@[simp] theorem State.placeAt_permit (t : TierNo) (p : Pose) (a : Arc) : (s.placeAt t p a).permit = s.permit := rfl
@[simp] theorem State.placeAt_cpFifo (t : TierNo) (p : Pose) (a : Arc) : (s.placeAt t p a).cpFifo = s.cpFifo := rfl
@[simp] theorem State.placeAt_replies (t : TierNo) (p : Pose) (a : Arc) : (s.placeAt t p a).replies = s.replies := rfl
@[simp] theorem State.placeAt_cpPort (t : TierNo) (p : Pose) (a : Arc) : (s.placeAt t p a).cpPort = s.cpPort := rfl
@[simp] theorem State.placeAt_cpTx (t : TierNo) (p : Pose) (a : Arc) : (s.placeAt t p a).cpTx = s.cpTx := rfl
@[simp] theorem State.placeAt_cursor (t : TierNo) (p : Pose) (a : Arc) : (s.placeAt t p a).cursor = s.cursor := rfl
@[simp] theorem State.placeAt_flags (t : TierNo) (p : Pose) (a : Arc) : (s.placeAt t p a).flags = s.flags := rfl
@[simp] theorem State.placeAt_enables (t : TierNo) (p : Pose) (a : Arc) : (s.placeAt t p a).enables = s.enables := rfl
@[simp] theorem State.placeAt_attn (t : TierNo) (p : Pose) (a : Arc) : (s.placeAt t p a).attn = s.attn := rfl
@[simp] theorem State.placeAt_pending (t : TierNo) (p : Pose) (a : Arc) : (s.placeAt t p a).pending = s.pending := rfl

/-! ### reply -/

@[simp] theorem State.reply_resetHeld (r : Reply) : (s.reply r).resetHeld = s.resetHeld := rfl
@[simp] theorem State.reply_stopnLow (r : Reply) : (s.reply r).stopnLow = s.stopnLow := rfl
@[simp] theorem State.reply_mode (r : Reply) : (s.reply r).mode = s.mode := rfl
@[simp] theorem State.reply_tiers (r : Reply) : (s.reply r).tiers = s.tiers := rfl
@[simp] theorem State.reply_globals (r : Reply) : (s.reply r).globals = s.globals := rfl
@[simp] theorem State.reply_ceilings (r : Reply) : (s.reply r).ceilings = s.ceilings := rfl
@[simp] theorem State.reply_records (r : Reply) : (s.reply r).records = s.records := rfl
@[simp] theorem State.reply_mailboxes (r : Reply) : (s.reply r).mailboxes = s.mailboxes := rfl
@[simp] theorem State.reply_waitList (r : Reply) : (s.reply r).waitList = s.waitList := rfl
@[simp] theorem State.reply_scan (r : Reply) : (s.reply r).scan = s.scan := rfl
@[simp] theorem State.reply_holds (r : Reply) : (s.reply r).holds = s.holds := rfl
@[simp] theorem State.reply_hyd (r : Reply) : (s.reply r).hyd = s.hyd := rfl
@[simp] theorem State.reply_slew (r : Reply) : (s.reply r).slew = s.slew := rfl
@[simp] theorem State.reply_capture (r : Reply) : (s.reply r).capture = s.capture := rfl
@[simp] theorem State.reply_second (r : Reply) : (s.reply r).second = s.second := rfl
@[simp] theorem State.reply_mpFifo (r : Reply) : (s.reply r).mpFifo = s.mpFifo := rfl
@[simp] theorem State.reply_mpPort (r : Reply) : (s.reply r).mpPort = s.mpPort := rfl
@[simp] theorem State.reply_mpTx (r : Reply) : (s.reply r).mpTx = s.mpTx := rfl
@[simp] theorem State.reply_permit (r : Reply) : (s.reply r).permit = s.permit := rfl
@[simp] theorem State.reply_cpFifo (r : Reply) : (s.reply r).cpFifo = s.cpFifo := rfl
@[simp] theorem State.reply_cpPort (r : Reply) : (s.reply r).cpPort = s.cpPort := rfl
@[simp] theorem State.reply_cpTx (r : Reply) : (s.reply r).cpTx = s.cpTx := rfl
@[simp] theorem State.reply_cursor (r : Reply) : (s.reply r).cursor = s.cursor := rfl
@[simp] theorem State.reply_flags (r : Reply) : (s.reply r).flags = s.flags := rfl
@[simp] theorem State.reply_enables (r : Reply) : (s.reply r).enables = s.enables := rfl
@[simp] theorem State.reply_attn (r : Reply) : (s.reply r).attn = s.attn := rfl
@[simp] theorem State.reply_pending (r : Reply) : (s.reply r).pending = s.pending := rfl

/-! ### driveAttn -/

@[simp] theorem State.driveAttn_resetHeld : (s.driveAttn).resetHeld = s.resetHeld := rfl
@[simp] theorem State.driveAttn_stopnLow : (s.driveAttn).stopnLow = s.stopnLow := rfl
@[simp] theorem State.driveAttn_mode : (s.driveAttn).mode = s.mode := rfl
@[simp] theorem State.driveAttn_tiers : (s.driveAttn).tiers = s.tiers := rfl
@[simp] theorem State.driveAttn_globals : (s.driveAttn).globals = s.globals := rfl
@[simp] theorem State.driveAttn_ceilings : (s.driveAttn).ceilings = s.ceilings := rfl
@[simp] theorem State.driveAttn_records : (s.driveAttn).records = s.records := rfl
@[simp] theorem State.driveAttn_mailboxes : (s.driveAttn).mailboxes = s.mailboxes := rfl
@[simp] theorem State.driveAttn_waitList : (s.driveAttn).waitList = s.waitList := rfl
@[simp] theorem State.driveAttn_scan : (s.driveAttn).scan = s.scan := rfl
@[simp] theorem State.driveAttn_holds : (s.driveAttn).holds = s.holds := rfl
@[simp] theorem State.driveAttn_hyd : (s.driveAttn).hyd = s.hyd := rfl
@[simp] theorem State.driveAttn_slew : (s.driveAttn).slew = s.slew := rfl
@[simp] theorem State.driveAttn_capture : (s.driveAttn).capture = s.capture := rfl
@[simp] theorem State.driveAttn_second : (s.driveAttn).second = s.second := rfl
@[simp] theorem State.driveAttn_mpFifo : (s.driveAttn).mpFifo = s.mpFifo := rfl
@[simp] theorem State.driveAttn_mpPort : (s.driveAttn).mpPort = s.mpPort := rfl
@[simp] theorem State.driveAttn_mpTx : (s.driveAttn).mpTx = s.mpTx := rfl
@[simp] theorem State.driveAttn_permit : (s.driveAttn).permit = s.permit := rfl
@[simp] theorem State.driveAttn_cpFifo : (s.driveAttn).cpFifo = s.cpFifo := rfl
@[simp] theorem State.driveAttn_replies : (s.driveAttn).replies = s.replies := rfl
@[simp] theorem State.driveAttn_cpPort : (s.driveAttn).cpPort = s.cpPort := rfl
@[simp] theorem State.driveAttn_cpTx : (s.driveAttn).cpTx = s.cpTx := rfl
@[simp] theorem State.driveAttn_cursor : (s.driveAttn).cursor = s.cursor := rfl
@[simp] theorem State.driveAttn_flags : (s.driveAttn).flags = s.flags := rfl
@[simp] theorem State.driveAttn_enables : (s.driveAttn).enables = s.enables := rfl
@[simp] theorem State.driveAttn_pending : (s.driveAttn).pending = s.pending := rfl

/-! ### settle -/

@[simp] theorem State.settle_resetHeld : (s.settle).resetHeld = s.resetHeld := rfl
@[simp] theorem State.settle_stopnLow : (s.settle).stopnLow = s.stopnLow := rfl
@[simp] theorem State.settle_mode : (s.settle).mode = s.mode := rfl
@[simp] theorem State.settle_tiers : (s.settle).tiers = s.tiers := rfl
@[simp] theorem State.settle_globals : (s.settle).globals = s.globals := rfl
@[simp] theorem State.settle_ceilings : (s.settle).ceilings = s.ceilings := rfl
@[simp] theorem State.settle_records : (s.settle).records = s.records := rfl
@[simp] theorem State.settle_mailboxes : (s.settle).mailboxes = s.mailboxes := rfl
@[simp] theorem State.settle_waitList : (s.settle).waitList = s.waitList := rfl
@[simp] theorem State.settle_scan : (s.settle).scan = s.scan := rfl
@[simp] theorem State.settle_holds : (s.settle).holds = s.holds := rfl
@[simp] theorem State.settle_hyd : (s.settle).hyd = s.hyd := rfl
@[simp] theorem State.settle_slew : (s.settle).slew = s.slew := rfl
@[simp] theorem State.settle_capture : (s.settle).capture = s.capture := rfl
@[simp] theorem State.settle_second : (s.settle).second = s.second := rfl
@[simp] theorem State.settle_mpFifo : (s.settle).mpFifo = s.mpFifo := rfl
@[simp] theorem State.settle_mpPort : (s.settle).mpPort = s.mpPort := rfl
@[simp] theorem State.settle_mpTx : (s.settle).mpTx = s.mpTx := rfl
@[simp] theorem State.settle_permit : (s.settle).permit = s.permit := rfl
@[simp] theorem State.settle_cpFifo : (s.settle).cpFifo = s.cpFifo := rfl
@[simp] theorem State.settle_replies : (s.settle).replies = s.replies := rfl
@[simp] theorem State.settle_cpPort : (s.settle).cpPort = s.cpPort := rfl
@[simp] theorem State.settle_cpTx : (s.settle).cpTx = s.cpTx := rfl
@[simp] theorem State.settle_cursor : (s.settle).cursor = s.cursor := rfl
@[simp] theorem State.settle_enables : (s.settle).enables = s.enables := rfl
@[simp] theorem State.settle_pending : (s.settle).pending = s.pending := rfl

/-! ### The accessors after an update of another item -/

@[simp] theorem State.setTier_record (t : TierNo) (r : Tier) (j : RecNo) : (s.setTier t r).record j = s.record j := rfl
@[simp] theorem State.setTier_mailbox (t : TierNo) (r : Tier) (h' : Handle) : (s.setTier t r).mailbox h' = s.mailbox h' := rfl
@[simp] theorem State.setTier_permitLine (t : TierNo) (r : Tier) (u : TierNo) : (s.setTier t r).permitLine u = s.permitLine u := rfl
@[simp] theorem State.setTier_hold (t : TierNo) (r : Tier) (j : HoldNo) : (s.setTier t r).hold j = s.hold j := rfl
@[simp] theorem State.setTier_marked (t : TierNo) (r : Tier) (j : RecNo) : (s.setTier t r).marked j = s.marked j := rfl

@[simp] theorem State.setRecord_tier (i : RecNo) (c : Option Claim) (u : TierNo) : (s.setRecord i c).tier u = s.tier u := rfl
@[simp] theorem State.setRecord_mailbox (i : RecNo) (c : Option Claim) (h' : Handle) : (s.setRecord i c).mailbox h' = s.mailbox h' := rfl
@[simp] theorem State.setRecord_permitLine (i : RecNo) (c : Option Claim) (u : TierNo) : (s.setRecord i c).permitLine u = s.permitLine u := rfl
@[simp] theorem State.setRecord_hold (i : RecNo) (c : Option Claim) (j : HoldNo) : (s.setRecord i c).hold j = s.hold j := rfl
@[simp] theorem State.setRecord_marked (i : RecNo) (c : Option Claim) (j : RecNo) : (s.setRecord i c).marked j = s.marked j := rfl

@[simp] theorem State.setMailbox_tier (h : Handle) (m : Mailbox) (u : TierNo) : (s.setMailbox h m).tier u = s.tier u := rfl
@[simp] theorem State.setMailbox_record (h : Handle) (m : Mailbox) (j : RecNo) : (s.setMailbox h m).record j = s.record j := rfl
@[simp] theorem State.setMailbox_permitLine (h : Handle) (m : Mailbox) (u : TierNo) : (s.setMailbox h m).permitLine u = s.permitLine u := rfl
@[simp] theorem State.setMailbox_hold (h : Handle) (m : Mailbox) (j : HoldNo) : (s.setMailbox h m).hold j = s.hold j := rfl
@[simp] theorem State.setMailbox_marked (h : Handle) (m : Mailbox) (j : RecNo) : (s.setMailbox h m).marked j = s.marked j := rfl

@[simp] theorem State.setPermit_tier (t : TierNo) (b : Bool) (u : TierNo) : (s.setPermit t b).tier u = s.tier u := rfl
@[simp] theorem State.setPermit_record (t : TierNo) (b : Bool) (j : RecNo) : (s.setPermit t b).record j = s.record j := rfl
@[simp] theorem State.setPermit_mailbox (t : TierNo) (b : Bool) (h' : Handle) : (s.setPermit t b).mailbox h' = s.mailbox h' := rfl
@[simp] theorem State.setPermit_hold (t : TierNo) (b : Bool) (j : HoldNo) : (s.setPermit t b).hold j = s.hold j := rfl
@[simp] theorem State.setPermit_marked (t : TierNo) (b : Bool) (j : RecNo) : (s.setPermit t b).marked j = s.marked j := rfl

@[simp] theorem State.setHold_tier (k : HoldNo) (a : Option Arc) (u : TierNo) : (s.setHold k a).tier u = s.tier u := rfl
@[simp] theorem State.setHold_record (k : HoldNo) (a : Option Arc) (j : RecNo) : (s.setHold k a).record j = s.record j := rfl
@[simp] theorem State.setHold_mailbox (k : HoldNo) (a : Option Arc) (h' : Handle) : (s.setHold k a).mailbox h' = s.mailbox h' := rfl
@[simp] theorem State.setHold_permitLine (k : HoldNo) (a : Option Arc) (u : TierNo) : (s.setHold k a).permitLine u = s.permitLine u := rfl
@[simp] theorem State.setHold_marked (k : HoldNo) (a : Option Arc) (j : RecNo) : (s.setHold k a).marked j = s.marked j := rfl

@[simp] theorem State.unmark_tier (i : RecNo) (u : TierNo) : (s.unmark i).tier u = s.tier u := rfl
@[simp] theorem State.unmark_record (i : RecNo) (j : RecNo) : (s.unmark i).record j = s.record j := rfl
@[simp] theorem State.unmark_mailbox (i : RecNo) (h' : Handle) : (s.unmark i).mailbox h' = s.mailbox h' := rfl
@[simp] theorem State.unmark_permitLine (i : RecNo) (u : TierNo) : (s.unmark i).permitLine u = s.permitLine u := rfl
@[simp] theorem State.unmark_hold (i : RecNo) (j : HoldNo) : (s.unmark i).hold j = s.hold j := rfl

@[simp] theorem State.post_tier (h : Handle) (st : ClaimState) (r : Result) (u : TierNo) : (s.post h st r).tier u = s.tier u := rfl
@[simp] theorem State.post_record (h : Handle) (st : ClaimState) (r : Result) (j : RecNo) : (s.post h st r).record j = s.record j := rfl
@[simp] theorem State.post_permitLine (h : Handle) (st : ClaimState) (r : Result) (u : TierNo) : (s.post h st r).permitLine u = s.permitLine u := rfl
@[simp] theorem State.post_hold (h : Handle) (st : ClaimState) (r : Result) (j : HoldNo) : (s.post h st r).hold j = s.hold j := rfl
@[simp] theorem State.post_marked (h : Handle) (st : ClaimState) (r : Result) (j : RecNo) : (s.post h st r).marked j = s.marked j := rfl

@[simp] theorem State.repend_tier (h : Handle) (u : TierNo) : (s.repend h).tier u = s.tier u := rfl
@[simp] theorem State.repend_record (h : Handle) (j : RecNo) : (s.repend h).record j = s.record j := rfl
@[simp] theorem State.repend_permitLine (h : Handle) (u : TierNo) : (s.repend h).permitLine u = s.permitLine u := rfl
@[simp] theorem State.repend_hold (h : Handle) (j : HoldNo) : (s.repend h).hold j = s.hold j := rfl
@[simp] theorem State.repend_marked (h : Handle) (j : RecNo) : (s.repend h).marked j = s.marked j := rfl

@[simp] theorem State.endScan_tier (u : TierNo) : (s.endScan).tier u = s.tier u := rfl
@[simp] theorem State.endScan_record (j : RecNo) : (s.endScan).record j = s.record j := rfl
@[simp] theorem State.endScan_mailbox (h' : Handle) : (s.endScan).mailbox h' = s.mailbox h' := rfl
@[simp] theorem State.endScan_permitLine (u : TierNo) : (s.endScan).permitLine u = s.permitLine u := rfl
@[simp] theorem State.endScan_hold (j : HoldNo) : (s.endScan).hold j = s.hold j := rfl

@[simp] theorem State.drawPools_tier (g : Grant) (u : TierNo) : (s.drawPools g).tier u = s.tier u := rfl
@[simp] theorem State.drawPools_record (g : Grant) (j : RecNo) : (s.drawPools g).record j = s.record j := rfl
@[simp] theorem State.drawPools_mailbox (g : Grant) (h' : Handle) : (s.drawPools g).mailbox h' = s.mailbox h' := rfl
@[simp] theorem State.drawPools_permitLine (g : Grant) (u : TierNo) : (s.drawPools g).permitLine u = s.permitLine u := rfl
@[simp] theorem State.drawPools_hold (g : Grant) (j : HoldNo) : (s.drawPools g).hold j = s.hold j := rfl
@[simp] theorem State.drawPools_marked (g : Grant) (j : RecNo) : (s.drawPools g).marked j = s.marked j := rfl

@[simp] theorem State.returnPools_tier (g : Grant) (u : TierNo) : (s.returnPools g).tier u = s.tier u := rfl
@[simp] theorem State.returnPools_record (g : Grant) (j : RecNo) : (s.returnPools g).record j = s.record j := rfl
@[simp] theorem State.returnPools_mailbox (g : Grant) (h' : Handle) : (s.returnPools g).mailbox h' = s.mailbox h' := rfl
@[simp] theorem State.returnPools_permitLine (g : Grant) (u : TierNo) : (s.returnPools g).permitLine u = s.permitLine u := rfl
@[simp] theorem State.returnPools_hold (g : Grant) (j : HoldNo) : (s.returnPools g).hold j = s.hold j := rfl
@[simp] theorem State.returnPools_marked (g : Grant) (j : RecNo) : (s.returnPools g).marked j = s.marked j := rfl

@[simp] theorem State.stopLease_record (t : TierNo) (j : RecNo) : (s.stopLease t).record j = s.record j := rfl
@[simp] theorem State.stopLease_mailbox (t : TierNo) (h' : Handle) : (s.stopLease t).mailbox h' = s.mailbox h' := rfl
@[simp] theorem State.stopLease_permitLine (t : TierNo) (u : TierNo) : (s.stopLease t).permitLine u = s.permitLine u := rfl
@[simp] theorem State.stopLease_hold (t : TierNo) (j : HoldNo) : (s.stopLease t).hold j = s.hold j := rfl
@[simp] theorem State.stopLease_marked (t : TierNo) (j : RecNo) : (s.stopLease t).marked j = s.marked j := rfl

@[simp] theorem State.placeAt_record (t : TierNo) (p : Pose) (a : Arc) (j : RecNo) : (s.placeAt t p a).record j = s.record j := rfl
@[simp] theorem State.placeAt_mailbox (t : TierNo) (p : Pose) (a : Arc) (h' : Handle) : (s.placeAt t p a).mailbox h' = s.mailbox h' := rfl
@[simp] theorem State.placeAt_permitLine (t : TierNo) (p : Pose) (a : Arc) (u : TierNo) : (s.placeAt t p a).permitLine u = s.permitLine u := rfl
@[simp] theorem State.placeAt_hold (t : TierNo) (p : Pose) (a : Arc) (j : HoldNo) : (s.placeAt t p a).hold j = s.hold j := rfl
@[simp] theorem State.placeAt_marked (t : TierNo) (p : Pose) (a : Arc) (j : RecNo) : (s.placeAt t p a).marked j = s.marked j := rfl

@[simp] theorem State.reply_tier (r : Reply) (u : TierNo) : (s.reply r).tier u = s.tier u := rfl
@[simp] theorem State.reply_record (r : Reply) (j : RecNo) : (s.reply r).record j = s.record j := rfl
@[simp] theorem State.reply_mailbox (r : Reply) (h' : Handle) : (s.reply r).mailbox h' = s.mailbox h' := rfl
@[simp] theorem State.reply_permitLine (r : Reply) (u : TierNo) : (s.reply r).permitLine u = s.permitLine u := rfl
@[simp] theorem State.reply_hold (r : Reply) (j : HoldNo) : (s.reply r).hold j = s.hold j := rfl
@[simp] theorem State.reply_marked (r : Reply) (j : RecNo) : (s.reply r).marked j = s.marked j := rfl

@[simp] theorem State.driveAttn_tier (u : TierNo) : (s.driveAttn).tier u = s.tier u := rfl
@[simp] theorem State.driveAttn_record (j : RecNo) : (s.driveAttn).record j = s.record j := rfl
@[simp] theorem State.driveAttn_mailbox (h' : Handle) : (s.driveAttn).mailbox h' = s.mailbox h' := rfl
@[simp] theorem State.driveAttn_permitLine (u : TierNo) : (s.driveAttn).permitLine u = s.permitLine u := rfl
@[simp] theorem State.driveAttn_hold (j : HoldNo) : (s.driveAttn).hold j = s.hold j := rfl
@[simp] theorem State.driveAttn_marked (j : RecNo) : (s.driveAttn).marked j = s.marked j := rfl

@[simp] theorem State.settle_tier (u : TierNo) : (s.settle).tier u = s.tier u := rfl
@[simp] theorem State.settle_record (j : RecNo) : (s.settle).record j = s.record j := rfl
@[simp] theorem State.settle_mailbox (h' : Handle) : (s.settle).mailbox h' = s.mailbox h' := rfl
@[simp] theorem State.settle_permitLine (u : TierNo) : (s.settle).permitLine u = s.permitLine u := rfl
@[simp] theorem State.settle_hold (j : HoldNo) : (s.settle).hold j = s.hold j := rfl
@[simp] theorem State.settle_marked (j : RecNo) : (s.settle).marked j = s.marked j := rfl

/-! ### The accessors after an update of their own item -/

theorem State.setTier_tier (t u : TierNo) (r : Tier) : (s.setTier t r).tier u = if t = u then r else s.tier u := by
  simp only [State.setTier, State.tier, Fin.getElem_fin, Vector.getElem_set, Fin.ext_iff]

@[simp] theorem State.setTier_tier_self (t : TierNo) (r : Tier) : (s.setTier t r).tier t = r := by
  simp [State.setTier_tier]

theorem State.setTier_tier_of_ne {t u : TierNo} (r : Tier) (h : t ≠ u) : (s.setTier t r).tier u = s.tier u := by
  simp [State.setTier_tier, h]

theorem State.setRecord_record (i j : RecNo) (c : Option Claim) :
    (s.setRecord i c).record j = if i = j then c else s.record j := by
  simp only [State.setRecord, State.record, Fin.getElem_fin, Vector.getElem_set, Fin.ext_iff]

@[simp] theorem State.setRecord_record_self (i : RecNo) (c : Option Claim) : (s.setRecord i c).record i = c := by
  simp [State.setRecord_record]

theorem State.setRecord_record_of_ne {i j : RecNo} (c : Option Claim) (h : i ≠ j) :
    (s.setRecord i c).record j = s.record j := by
  simp [State.setRecord_record, h]

/-- Handles and mailbox numbers are the same 96 things (R57). -/
@[simp] theorem handleOfIndex_handleIndex (h : Handle) : handleOfIndex (handleIndex h) = h := by
  rcases h with ⟨⟨t, ht⟩, ⟨k, hk⟩⟩
  simp only [handleOfIndex, handleIndex, Handle.mk.injEq, Fin.mk.injEq]
  omega

@[simp] theorem handleIndex_handleOfIndex (m : Fin 96) : handleIndex (handleOfIndex m) = m := by
  rcases m with ⟨m, hm⟩
  simp only [handleOfIndex, handleIndex, Fin.mk.injEq]
  omega

theorem handleIndex_inj {h h' : Handle} : handleIndex h = handleIndex h' ↔ h = h' :=
  ⟨fun e => by simpa using congrArg handleOfIndex e, fun e => e ▸ rfl⟩

theorem State.setMailbox_mailbox (h h' : Handle) (m : Mailbox) :
    (s.setMailbox h m).mailbox h' = if h = h' then m else s.mailbox h' := by
  simp only [State.setMailbox, State.mailbox, Fin.getElem_fin, Vector.getElem_set, ← Fin.ext_iff, handleIndex_inj]

@[simp] theorem State.setMailbox_mailbox_self (h : Handle) (m : Mailbox) : (s.setMailbox h m).mailbox h = m := by
  simp [State.setMailbox_mailbox]

theorem State.setPermit_permitLine (t u : TierNo) (b : Bool) :
    (s.setPermit t b).permitLine u = if t = u then b else s.permitLine u := by
  simp only [State.setPermit, State.permitLine, Fin.getElem_fin, Vector.getElem_set, Fin.ext_iff]

@[simp] theorem State.setPermit_permitLine_self (t : TierNo) (b : Bool) : (s.setPermit t b).permitLine t = b := by
  simp [State.setPermit_permitLine]

theorem State.setHold_hold (k j : HoldNo) (a : Option Arc) :
    (s.setHold k a).hold j = if k = j then a else s.hold j := by
  simp only [State.setHold, State.hold, Fin.getElem_fin, Vector.getElem_set, Fin.ext_iff]

@[simp] theorem State.setHold_hold_self (k : HoldNo) (a : Option Arc) : (s.setHold k a).hold k = a := by
  simp [State.setHold_hold]

theorem State.unmark_marked (i j : RecNo) : (s.unmark i).marked j = (s.marked j && decide (i ≠ j)) := by
  by_cases h : i = j
  · simp [State.unmark, State.marked, h]
  · simp [State.unmark, State.marked, h, Fin.ext_iff.not.mp h]

@[simp] theorem State.endScan_marked (j : RecNo) : s.endScan.marked j = false := by
  simp [State.endScan, State.marked, Scan.idle]

theorem State.post_mailbox (h h' : Handle) (st : ClaimState) (r : Result) :
    (s.post h st r).mailbox h' = if h = h' then ⟨st, r, true⟩ else s.mailbox h' :=
  s.setMailbox_mailbox h h' _

theorem State.post_mailboxes_getElem (h : Handle) (st : ClaimState) (r : Result) (m : Fin 96) :
    (s.post h st r).mailboxes[m] = if h = handleOfIndex m then ⟨st, r, true⟩ else s.mailboxes[m] := by
  have e := s.post_mailbox h (handleOfIndex m) st r
  simpa only [State.mailbox, handleIndex_handleOfIndex] using e

theorem State.repend_mailbox (h h' : Handle) :
    (s.repend h).mailbox h' = if h = h' then { s.mailbox h with pending := true } else s.mailbox h' :=
  s.setMailbox_mailbox h h' _

theorem State.stopLease_tier (t u : TierNo) :
    (s.stopLease t).tier u = if t = u then { s.tier t with lease := 0, leaseRunning := false } else s.tier u :=
  s.setTier_tier t u _

theorem State.placeAt_tier (t u : TierNo) (p : Pose) (a : Arc) :
    (s.placeAt t p a).tier u =
      if t = u then { s.tier t with rest := p, standing := some a, tracked := p, havePose := true } else s.tier u :=
  s.setTier_tier t u _

/-! ### Two states with the same fields read the same -/

theorem State.ext_tiers {v w : Vector Tier 24} (h : ∀ t : TierNo, v[t] = w[t]) : v = w :=
  Vector.ext fun i hi => h ⟨i, hi⟩

theorem State.ext_records {v w : Vector (Option Claim) 64} (h : ∀ i : RecNo, v[i] = w[i]) : v = w :=
  Vector.ext fun i hi => h ⟨i, hi⟩

theorem State.ext_mailboxes {v w : Vector Mailbox 96} (h : ∀ m : Fin 96, v[m] = w[m]) : v = w :=
  Vector.ext fun i hi => h ⟨i, hi⟩

end Sys2Proof.Machine
end

