-- ==== Sys2Proof/Laws/Claims.lean ====
section
/-! SUPPORT. What a stop and a retirement of many claims come to, as one update of the state: the loops of `State.stopWhere` and
`State.retireWaitingWhere` against their closed forms. -/

namespace Sys2Proof.Machine

/-! ### Reading a claim -/

theorem Claim.isWaiting_iff (c : Claim) : c.isWaiting = true ↔ c.phase = .waiting := by
  rcases c with ⟨h, m, p, o, ph⟩
  cases ph <;> simp [Claim.isWaiting, Claim.state]

theorem Claim.grantedAnd_iff (p : Handle → Arc → Bool) (c : Claim) :
    c.grantedAnd p = true ↔ ∃ g, c.phase = .granted g ∧ p c.handle g.arc = true := by
  rcases c with ⟨h, m, pr, o, ph⟩
  cases ph <;> simp [Claim.grantedAnd]

@[simp] theorem Claim.stopped_handle (c : Claim) : c.stopped.handle = c.handle := by
  rcases c with ⟨h, m, p, o, ph⟩
  cases ph <;> rfl

/-! ### Stops -/

/-- A stop of the claim in a record that is GRANTED: STOPPING with its fields, PERMIT off, mailbox written (R47). -/
theorem State.stopRecord_granted {s : State} {i : RecNo} {c : Claim} {g : Grant} (hc : s.record i = some c)
    (hg : c.phase = .granted g) :
    s.stopRecord i =
      ((s.setRecord i (some { c with phase := .stopping g })).setPermit c.handle.tier false).post c.handle .stopping
        .granted := by
  simp [State.stopRecord, hc, hg]

/-- A stop cause changes nothing where the record is FREE or its claim is not GRANTED (R47). -/
theorem State.stopRecord_other {s : State} {i : RecNo} (h : ∀ c g, s.record i = some c → c.phase ≠ .granted g) :
    s.stopRecord i = s := by
  cases hc : s.record i with
  | none => simp [State.stopRecord, hc]
  | some c =>
    cases hp : c.phase with
    | granted g => exact absurd hp (h c g hc)
    | waiting => simp [State.stopRecord, hc, hp]
    | stopping g => simp [State.stopRecord, hc, hp]
    | frozen g => simp [State.stopRecord, hc, hp]

/-- The part of `State.withStopped` that a list of records accounts for. -/
def State.stoppedIn (s : State) (p : Handle → Arc → Bool) (l : List RecNo) : State :=
  { s with
    records := Vector.ofFn fun i =>
      if i ∈ l then (s.record i).map fun c => if c.grantedAnd p then c.stopped else c else s.record i
    permit := Vector.ofFn fun t =>
      s.permitLine t && !l.any fun i => (s.record i).any fun c => c.grantedAnd p && c.handle.tier == t
    mailboxes := Vector.ofFn fun m =>
      if l.any fun i => (s.record i).any fun c => c.grantedAnd p && c.handle == handleOfIndex m then
        ⟨.stopping, .granted, true⟩
      else s.mailboxes[m] }

/-- One turn of the loop of `State.stopWhere`. -/
def State.stopTurn (p : Handle → Arc → Bool) (s : State) (i : RecNo) : State :=
  if (s.record i).any fun c => (c.grant?.any fun g => p c.handle g.arc) then s.stopRecord i else s

theorem State.stopTurn_eq (p : Handle → Arc → Bool) (s : State) (i : RecNo) :
    s.stopTurn p i = s ∧ (s.record i).any (Claim.grantedAnd p) = false ∨
      ∃ c g, s.record i = some c ∧ c.phase = .granted g ∧ c.grantedAnd p = true ∧
        s.stopTurn p i =
          ((s.setRecord i (some { c with phase := .stopping g })).setPermit c.handle.tier false).post c.handle .stopping
            .granted := by
  unfold State.stopTurn
  cases hc : s.record i with
  | none => simp
  | some c =>
    cases hp : c.phase with
    | granted g =>
      by_cases hq : p c.handle g.arc
      · exact .inr ⟨c, g, rfl, hp, by simp [Claim.grantedAnd, hp, hq],
          by simp [Claim.grant?, hp, hq, State.stopRecord_granted hc hp]⟩
      · exact .inl ⟨by simp [Claim.grant?, hp, hq], by simp [Claim.grantedAnd, hp, hq]⟩
    | waiting => exact .inl ⟨by simp [State.stopRecord, hc, hp], by simp [Claim.grantedAnd, hp]⟩
    | stopping g => exact .inl ⟨by simp [State.stopRecord, hc, hp], by simp [Claim.grantedAnd, hp]⟩
    | frozen g => exact .inl ⟨by simp [State.stopRecord, hc, hp], by simp [Claim.grantedAnd, hp]⟩

theorem State.stop_fields_congr {s : State} {r r' : Vector (Option Claim) 64} {q q' : Vector Bool 24}
    {m m' : Vector Mailbox 96} (hr : r = r') (hq : q = q') (hm : m = m') :
    ({ s with records := r, permit := q, mailboxes := m } : State) =
      { s with records := r', permit := q', mailboxes := m' } := by
  rw [hr, hq, hm]

theorem State.stoppedIn_nil (s : State) (p : Handle → Arc → Bool) : s.stoppedIn p [] = s :=
  State.stop_fields_congr (s := s) (r' := s.records) (q' := s.permit) (m' := s.mailboxes)
    (Vector.ext fun i hi => by simp [State.record]) (Vector.ext fun i hi => by simp [State.permitLine])
    (Vector.ext fun i hi => by simp)

theorem anyIn_congr {l : List RecNo} {v w : RecNo → Option Claim} (h : ∀ j ∈ l, v j = w j) (f : Claim → Bool) :
    (l.any fun j => (v j).any f) = l.any fun j => (w j).any f := by
  induction l with
  | nil => rfl
  | cons a l ih =>
    rw [List.any_cons, List.any_cons, h a (by simp), ih fun j hj => h j (by simp [hj])]

theorem State.stoppedIn_cons {s : State} {p : Handle → Arc → Bool} {i : RecNo} {l : List RecNo} (hi : i ∉ l) :
    (s.stopTurn p i).stoppedIn p l = s.stoppedIn p (i :: l) := by
  rcases s.stopTurn_eq p i with ⟨he, hf⟩ | ⟨c, g, hc, hp, hg, he⟩
  · have hany : ∀ f : Claim → Bool, (s.record i).any (fun c => c.grantedAnd p && f c) = false := by
      intro f
      cases hc : s.record i with
      | none => rfl
      | some c => simp_all
    rw [he]
    refine State.stop_fields_congr (State.ext_records fun j => ?_) (Vector.ext fun t ht => ?_) (Vector.ext fun m hm => ?_)
    · by_cases hj : j = i
      · subst hj
        cases hc : s.record j with
        | none => simp [hi, hc]
        | some c => simp_all
      · simp [hj]
    · rw [Vector.getElem_ofFn, Vector.getElem_ofFn, List.any_cons, hany fun c => c.handle.tier == ⟨t, ht⟩,
        Bool.false_or]
    · rw [Vector.getElem_ofFn, Vector.getElem_ofFn, List.any_cons, hany fun c => c.handle == handleOfIndex ⟨m, hm⟩,
        Bool.false_or]
  · have hrec : ∀ j ∈ l, (s.stopTurn p i).record j = s.record j := by
      intro j hj
      have hne : i ≠ j := fun e => hi (e ▸ hj)
      rw [he, State.post_record, State.setPermit_record, State.setRecord_record_of_ne _ _ hne]
    have hself : (s.stopTurn p i).record i = some c.stopped := by
      rw [he, State.post_record, State.setPermit_record, State.setRecord_record_self, Claim.stopped, hp]
    have hpermit : ∀ t, (s.stopTurn p i).permitLine t = (s.permitLine t && !(c.handle.tier == t)) := by
      intro t
      rw [he, State.post_permitLine, State.setPermit_permitLine, State.setRecord_permitLine]
      by_cases h : c.handle.tier = t <;> simp [h]
    have hmail : ∀ m : Fin 96, (s.stopTurn p i).mailboxes[m] =
        if c.handle = handleOfIndex m then ⟨.stopping, .granted, true⟩ else s.mailboxes[m] := by
      intro m
      rw [he, State.post_mailboxes_getElem]
      rfl
    rw [he] at hrec hself hpermit hmail ⊢
    refine State.stop_fields_congr (s := s) (State.ext_records fun j => ?_) (Vector.ext fun t ht => ?_)
      (Vector.ext fun m hm => ?_)
    · simp only [Fin.getElem_fin, Vector.getElem_ofFn, List.mem_cons]
      by_cases hj : j = i
      · subst hj
        rw [if_neg hi, if_pos (.inl rfl), hself, hc, Option.map_some, if_pos hg]
      · rw [State.post_record, State.setPermit_record, State.setRecord_record_of_ne _ _ (Ne.symm hj)]
        simp only [hj, false_or]
    · rw [Vector.getElem_ofFn, Vector.getElem_ofFn, List.any_cons, hc, hpermit,
        anyIn_congr hrec fun c => c.grantedAnd p && c.handle.tier == ⟨t, ht⟩]
      simp [hg, Bool.and_assoc]
    · rw [Vector.getElem_ofFn, Vector.getElem_ofFn, List.any_cons, hc,
        anyIn_congr hrec fun c => c.grantedAnd p && c.handle == handleOfIndex ⟨m, hm⟩]
      have := hmail ⟨m, hm⟩
      simp only [Fin.getElem_fin] at this
      simp only [Fin.getElem_fin, this, Option.any_some, hg, Bool.true_and]
      by_cases h : c.handle = handleOfIndex ⟨m, hm⟩
      · simp only [h, if_true, beq_self_eq_true, Bool.true_or, ite_self]
      · simp only [h, if_false, beq_eq_false_iff_ne.mpr h, Bool.false_or]

/-- The loop of stops is one update of the state. -/
theorem State.stopWhere_eq (s : State) (p : Handle → Arc → Bool) : s.stopWhere p = s.withStopped p := by
  have loop : ∀ (l : List RecNo) (s : State), l.Nodup → l.foldl (State.stopTurn p) s = s.stoppedIn p l := by
    intro l
    induction l with
    | nil => intro s _; exact (s.stoppedIn_nil p).symm
    | cons i l ih =>
      intro s h
      rw [List.foldl_cons, ih _ (List.nodup_cons.mp h).2, State.stoppedIn_cons (List.nodup_cons.mp h).1]
  refine (loop _ s (List.nodup_finRange 64)).trans (State.stop_fields_congr (s := s) ?_ rfl rfl)
  exact State.ext_records fun j => by simp

/-! ### Retirements of WAITING claims -/

/-- The part of `State.withRetired` that a list of records accounts for. -/
def State.retiredIn (s : State) (p : Claim → Bool) (r : Result) (l : List RecNo) : State :=
  let goes : Claim → Bool := fun c => c.isWaiting && p c
  { s with
    records := Vector.ofFn fun i => if i ∈ l ∧ (s.record i).any goes then none else s.record i
    waitList := s.waitList.filter fun i => !(decide (i ∈ l) && (s.record i).any goes)
    scan := { s.scan with marks := Vector.ofFn fun i => s.marked i && !(decide (i ∈ l) && (s.record i).any goes) }
    tiers := Vector.ofFn fun t =>
      { s.tier t with
        legs := (s.tier t).legs.filter fun k => !l.any fun i => (s.record i).any fun c => goes c && c.handle == ⟨t, k⟩ }
    mailboxes := Vector.ofFn fun m =>
      if l.any fun i => (s.record i).any fun c => goes c && c.handle == handleOfIndex m then ⟨.free, r, true⟩
      else s.mailboxes[m] }

theorem State.retire_fields_congr {s : State} {v v' : Vector (Option Claim) 64} {w w' : List RecNo}
    {k k' : Vector Bool 64} {t t' : Vector Tier 24} {m m' : Vector Mailbox 96} (hv : v = v') (hw : w = w') (hk : k = k')
    (ht : t = t') (hm : m = m') :
    ({ s with records := v, waitList := w, scan := { s.scan with marks := k }, tiers := t, mailboxes := m } : State) =
      { s with records := v', waitList := w', scan := { s.scan with marks := k' }, tiers := t', mailboxes := m' } := by
  rw [hv, hw, hk, ht, hm]

/-- One turn of the loop of `State.retireWaitingWhere`. -/
def State.retireTurn (p : Claim → Bool) (r : Result) (s : State) (i : RecNo) : State :=
  if (s.record i).any p then s.retireWaiting i r else s

theorem State.retireTurn_eq (p : Claim → Bool) (r : Result) (s : State) (i : RecNo) :
    s.retireTurn p r i = s ∧ (s.record i).any (fun c => c.isWaiting && p c) = false ∨
      ∃ c, s.record i = some c ∧ c.isWaiting = true ∧ p c = true ∧ s.retireTurn p r i = s.unbind i c.handle r := by
  unfold State.retireTurn State.retireWaiting
  cases hc : s.record i with
  | none => simp
  | some c => cases hw : c.isWaiting <;> cases hp : p c <;> simp [hw, hp]

/-! What `State.unbind` leaves, item by item. -/

theorem State.unbind_record (s : State) (i j : RecNo) (h : Handle) (r : Result) :
    (s.unbind i h r).record j = if i = j then none else s.record j :=
  s.setRecord_record i j none

theorem State.unbind_waitList (s : State) (i : RecNo) (h : Handle) (r : Result) :
    (s.unbind i h r).waitList = s.waitList.filter fun j => j != i := rfl

theorem State.unbind_marked (s : State) (i j : RecNo) (h : Handle) (r : Result) :
    (s.unbind i h r).marked j = (s.marked j && decide (i ≠ j)) :=
  (s.setRecord i none).unmark_marked i j

theorem State.unbind_tier (s : State) (i : RecNo) (h : Handle) (r : Result) (t : TierNo) :
    (s.unbind i h r).tier t =
      if h.tier = t then { s.tier t with legs := (s.tier t).legs.filter fun k => k != h.slot } else s.tier t := by
  refine (State.setTier_tier _ h.tier t _).trans ?_
  by_cases e : h.tier = t
  · rw [if_pos e, if_pos e, e]; rfl
  · rw [if_neg e, if_neg e]; rfl

theorem State.unbind_mailboxes_getElem (s : State) (i : RecNo) (h : Handle) (r : Result) (m : Fin 96) :
    (s.unbind i h r).mailboxes[m] = if h = handleOfIndex m then ⟨.free, r, true⟩ else s.mailboxes[m] :=
  State.post_mailboxes_getElem _ h .free r m

theorem State.unbind_mailbox (s : State) (i : RecNo) (h h' : Handle) (r : Result) :
    (s.unbind i h r).mailbox h' = if h = h' then ⟨.free, r, true⟩ else s.mailbox h' :=
  State.post_mailbox _ h h' .free r

theorem State.retiredIn_nil (s : State) (p : Claim → Bool) (r : Result) : s.retiredIn p r [] = s :=
  State.retire_fields_congr (s := s) (v' := s.records) (w' := s.waitList) (k' := s.scan.marks) (t' := s.tiers)
    (m' := s.mailboxes) (Vector.ext fun i hi => by simp [State.record]) (by simp)
    (Vector.ext fun i hi => by simp [State.marked]) (Vector.ext fun i hi => by simp [State.tier])
    (Vector.ext fun i hi => by simp)

theorem State.retiredIn_cons {s : State} {p : Claim → Bool} {r : Result} {i : RecNo} {l : List RecNo} (hi : i ∉ l) :
    (s.retireTurn p r i).retiredIn p r l = s.retiredIn p r (i :: l) := by
  rcases s.retireTurn_eq p r i with ⟨he, hf⟩ | ⟨c, hc, hw, hp, he⟩
  · have hany : ∀ f : Claim → Bool, (s.record i).any (fun c => c.isWaiting && p c && f c) = false := by
      intro f
      cases hc : s.record i with
      | none => rfl
      | some c =>
        rw [hc, Option.any_some] at hf
        rw [Option.any_some, hf, Bool.false_and]
    have hmem : ∀ j, (decide (j ∈ i :: l) && (s.record j).any fun c => c.isWaiting && p c) =
        (decide (j ∈ l) && (s.record j).any fun c => c.isWaiting && p c) := by
      intro j
      by_cases hj : j = i
      · subst hj; rw [hf, Bool.and_false, Bool.and_false]
      · simp only [List.mem_cons, hj, false_or]
    rw [he]
    refine State.retire_fields_congr (State.ext_records fun j => ?_) (List.filter_congr fun j _ => by rw [hmem j])
      (Vector.ext fun j hj => ?_) (State.ext_tiers fun t => ?_) (State.ext_mailboxes fun m => ?_)
    · simp only [Fin.getElem_fin, Vector.getElem_ofFn, Fin.eta]
      have := hmem j
      by_cases hj : j = i
      · subst hj; simp [hf]
      · simp [hj]
    · simp only [Vector.getElem_ofFn]
      rw [hmem ⟨j, hj⟩]
    · simp only [Fin.getElem_fin, Vector.getElem_ofFn, Fin.eta]
      congr 1
      refine List.filter_congr fun k _ => ?_
      rw [List.any_cons, hany fun c => c.handle == ⟨t, k⟩, Bool.false_or]
    · simp only [Fin.getElem_fin, Vector.getElem_ofFn, Fin.eta]
      rw [List.any_cons, hany fun c => c.handle == handleOfIndex m, Bool.false_or]
  · have hrec : ∀ j ∈ l, (s.unbind i c.handle r).record j = s.record j := by
      intro j hj
      have hne : i ≠ j := fun e => hi (e ▸ hj)
      rw [State.unbind_record, if_neg hne]
    have hgone : (s.unbind i c.handle r).record i = none := by rw [State.unbind_record, if_pos rfl]
    have hgo : (s.record i).any (fun c => c.isWaiting && p c) = true := by simp [hc, hw, hp]
    have hmem : ∀ j, j ≠ i → (decide (j ∈ l) && ((s.unbind i c.handle r).record j).any fun c => c.isWaiting && p c) =
        (decide (j ∈ i :: l) && (s.record j).any fun c => c.isWaiting && p c) := by
      intro j hj
      rw [State.unbind_record, if_neg (Ne.symm hj)]
      simp only [List.mem_cons, hj, false_or]
    rw [he]
    refine State.retire_fields_congr (s := s) (State.ext_records fun j => ?_) ?_
      (Vector.ext fun j hj => ?_) (State.ext_tiers fun t => ?_) (State.ext_mailboxes fun m => ?_)
    · simp only [Fin.getElem_fin, Vector.getElem_ofFn, Fin.eta]
      by_cases hj : j = i
      · subst hj; rw [hgone]; simp [hgo]
      · rw [State.unbind_record, if_neg (Ne.symm hj)]; simp [hj]
    · rw [State.unbind_waitList, List.filter_filter]
      refine List.filter_congr fun j _ => ?_
      by_cases hj : j = i
      · subst hj; simp [hgo]
      · rw [hmem j hj]; simp [hj]
    · simp only [Vector.getElem_ofFn]
      rw [State.unbind_marked]
      by_cases hj' : (⟨j, hj⟩ : RecNo) = i
      · subst hj'; simp [hgo]
      · rw [hmem _ hj']; simp [Ne.symm hj']
    · simp only [Fin.getElem_fin, Vector.getElem_ofFn, Fin.eta]
      rw [State.unbind_tier]
      by_cases ht : c.handle.tier = t
      · rw [if_pos ht]
        congr 1
        simp only [List.filter_filter]
        refine List.filter_congr fun k _ => ?_
        rw [List.any_cons, hc, anyIn_congr hrec fun c => c.isWaiting && p c && c.handle == ⟨t, k⟩]
        have : (c.handle == (⟨t, k⟩ : Handle)) = (k == c.handle.slot) := by
          rcases c with ⟨⟨ht', hk⟩, _, _, _, _⟩
          simp only at ht
          subst ht
          simp [eq_comm]
        simp [hw, hp, this, Bool.and_comm, bne]
      · rw [if_neg ht]
        congr 1
        refine List.filter_congr fun k _ => ?_
        rw [List.any_cons, hc, anyIn_congr hrec fun c => c.isWaiting && p c && c.handle == ⟨t, k⟩]
        have : (c.handle == (⟨t, k⟩ : Handle)) = false := beq_eq_false_iff_ne.mpr fun e => ht (by rw [e])
        simp [this]
    · simp only [Fin.getElem_fin, Vector.getElem_ofFn, Fin.eta]
      rw [List.any_cons, hc, anyIn_congr hrec fun c => c.isWaiting && p c && c.handle == handleOfIndex m]
      have := s.unbind_mailboxes_getElem i c.handle r m
      simp only [Fin.getElem_fin] at this
      rw [this]
      by_cases h : c.handle = handleOfIndex m
      · simp only [h, if_true, Option.any_some, hw, hp, beq_self_eq_true, Bool.and_true, Bool.true_or, ite_self]
      · simp only [h, if_false, Option.any_some, beq_eq_false_iff_ne.mpr h, Bool.and_false, Bool.false_or]

/-- The loop of retirements is one update of the state. -/
theorem State.retireWaitingWhere_eq (s : State) (p : Claim → Bool) (r : Result) :
    s.retireWaitingWhere p r = s.withRetired p r := by
  have loop : ∀ (l : List RecNo) (s : State), l.Nodup → l.foldl (State.retireTurn p r) s = s.retiredIn p r l := by
    intro l
    induction l with
    | nil => intro s _; exact (s.retiredIn_nil p r).symm
    | cons i l ih =>
      intro s h
      rw [List.foldl_cons, ih _ (List.nodup_cons.mp h).2, State.retiredIn_cons (List.nodup_cons.mp h).1]
  refine (loop _ s (List.nodup_finRange 64)).trans (State.retire_fields_congr (s := s) ?_ ?_ ?_ rfl rfl)
  · exact State.ext_records fun j => by simp
  · exact List.filter_congr fun j _ => by simp
  · exact Vector.ext fun j hj => by simp

/-! ### The closed forms, read item by item -/

/-- Some record holds a claim that `p` picks. -/
theorem State.anyClaim_iff (s : State) (p : Claim → Bool) :
    s.anyClaim p = true ↔ ∃ i c, s.Holds i c ∧ p c = true := by
  simp [State.anyClaim, State.Holds, Option.any_eq_true]

@[simp] theorem State.withStopped_record (s : State) (p : Handle → Arc → Bool) (i : RecNo) :
    (s.withStopped p).record i = (s.record i).map fun c => if c.grantedAnd p then c.stopped else c := by
  simp [State.withStopped, State.record]

@[simp] theorem State.withStopped_tier (s : State) (p : Handle → Arc → Bool) (t : TierNo) :
    (s.withStopped p).tier t = s.tier t := by
  unfold State.tier State.withStopped
  rfl

@[simp] theorem State.withStopped_permitLine (s : State) (p : Handle → Arc → Bool) (t : TierNo) :
    (s.withStopped p).permitLine t =
      (s.permitLine t && !s.anyClaim fun c => c.grantedAnd p && c.handle.tier == t) := by
  simp [State.withStopped, State.permitLine]

@[simp] theorem State.withStopped_mailbox (s : State) (p : Handle → Arc → Bool) (h : Handle) :
    (s.withStopped p).mailbox h =
      if s.anyClaim fun c => c.grantedAnd p && c.handle == h then ⟨.stopping, .granted, true⟩ else s.mailbox h := by
  simp only [State.withStopped, State.mailbox, Fin.getElem_fin, Vector.getElem_ofFn, Fin.eta, handleOfIndex_handleIndex]

@[simp] theorem State.withRetired_record (s : State) (p : Claim → Bool) (r : Result) (i : RecNo) :
    (s.withRetired p r).record i = if (s.record i).any (fun c => c.isWaiting && p c) then none else s.record i := by
  simp [State.withRetired, State.record]

@[simp] theorem State.withRetired_permitLine (s : State) (p : Claim → Bool) (r : Result) (t : TierNo) :
    (s.withRetired p r).permitLine t = s.permitLine t := by
  unfold State.permitLine State.withRetired
  rfl

@[simp] theorem State.withRetired_tier (s : State) (p : Claim → Bool) (r : Result) (t : TierNo) :
    (s.withRetired p r).tier t =
      { s.tier t with
        legs := (s.tier t).legs.filter fun k => !s.anyClaim fun c => (c.isWaiting && p c) && c.handle == ⟨t, k⟩ } := by
  simp only [State.withRetired, State.tier, Fin.getElem_fin, Vector.getElem_ofFn]

@[simp] theorem State.withRetired_mailbox (s : State) (p : Claim → Bool) (r : Result) (h : Handle) :
    (s.withRetired p r).mailbox h =
      if s.anyClaim fun c => (c.isWaiting && p c) && c.handle == h then ⟨.free, r, true⟩ else s.mailbox h := by
  simp only [State.withRetired, State.mailbox, Fin.getElem_fin, Vector.getElem_ofFn, Fin.eta, handleOfIndex_handleIndex]

theorem State.freezeWith_record (s : State) (i j : RecNo) (c : Claim) (g : Grant) :
    (s.freezeWith i c g).record j = if i = j then some { c with phase := .frozen g } else s.record j :=
  s.setRecord_record i j _

theorem State.freezeWith_tier (s : State) (i : RecNo) (c : Claim) (g : Grant) (t : TierNo) :
    (s.freezeWith i c g).tier t =
      if c.handle.tier = t then { s.tier c.handle.tier with lease := 0, leaseRunning := false } else s.tier t :=
  s.stopLease_tier c.handle.tier t

theorem State.freezeWith_permitLine (s : State) (i : RecNo) (c : Claim) (g : Grant) (t : TierNo) :
    (s.freezeWith i c g).permitLine t = if c.handle.tier = t then false else s.permitLine t :=
  s.setPermit_permitLine c.handle.tier t false

theorem State.freezeWith_mailbox (s : State) (i : RecNo) (c : Claim) (g : Grant) (h : Handle) :
    (s.freezeWith i c g).mailbox h = if c.handle = h then ⟨.frozen, .granted, true⟩ else s.mailbox h :=
  s.post_mailbox c.handle h _ _

end Sys2Proof.Machine
end

