-- ==== Sys2Proof/Laws/Operations.lean ====
section
/-! SUPPORT. For each shared operation, once, everything it can do: as one update of the state whose changed fields are
written out. Later proofs cite these and unfold no operation. -/

namespace Sys2Proof.Machine

/-! ### Events that fall due -/

/-- With RESETN high an event acts (R143). -/
theorem State.powered_of_high {s : State} (h : s.resetHeld = false) (f : State → State) : s.powered f = f s := by
  simp [State.powered, h]

/-- With RESETN low it does not (R143). -/
theorem State.powered_of_low {s : State} (h : s.resetHeld = true) (f : State → State) : s.powered f = s := by
  simp [State.powered, h]

/-! ### Fault reports -/

/-- The record after a report (R135). -/
def latched (held : Option FaultRecord) (r : FaultRecord) : Option FaultRecord :=
  match held with
  | none => some r
  | some q => if q.kind.isHard then some q else if r.kind.isHard then some r else some q

/-- SECOND after a report (R135). -/
def latchedSecond (held : Option FaultRecord) (second : Bool) (r : FaultRecord) : Bool :=
  match held with
  | none => second
  | some q => second || (q.kind.isHard && r.kind.isHard)

/-- A fault report changes the record and SECOND by the latching rule, and nothing else (R124, R135). -/
theorem State.raise_eq (s : State) (k : FaultKind) (t : Option TierNo) (slot : Option SlotNo) (pose : Option Pose) :
    s.raise k t slot pose =
      { s with
        capture := latched s.capture ⟨k, t, slot, pose, s.mode⟩
        second := latchedSecond s.capture s.second ⟨k, t, slot, pose, s.mode⟩ } := by
  unfold State.raise
  cases s with
  | mk resetHeld stopnLow mode tiers globals ceilings records mailboxes waitList scan holds hyd slew capture second =>
    cases capture with
    | none => rfl
    | some r =>
      cases hr : r.kind.isHard <;> cases hk : k.isHard <;> simp [latched, latchedSecond, hr, hk]

/-! ### Scans -/

/-- The scan state after a scan starts (R65). -/
def startedScan (waitList : List RecNo) : Scan :=
  if waitList.isEmpty then Scan.idle
  else
    { running := true, rescan := false, marks := Vector.ofFn fun i => waitList.contains i, shadows := [],
      hydShadow := false, slewShadow := false }

theorem State.startScan_eq (s : State) : s.startScan = { s with scan := startedScan s.waitList } := by
  unfold State.startScan startedScan
  split_ifs <;> rfl

/-- The scan state after a scan request (R64). -/
def requestedScan (mode : Mode) (waitList : List RecNo) (scan : Scan) : Scan :=
  match mode with
  | .run => if scan.running then { scan with rescan := true } else startedScan waitList
  | .config => scan
  | .halt => scan

theorem State.requestScan_eq (s : State) : s.requestScan = { s with scan := requestedScan s.mode s.waitList s.scan } := by
  cases s with
  | mk resetHeld stopnLow mode tiers globals ceilings records mailboxes waitList scan =>
    cases mode with
    | run =>
      simp only [State.requestScan, requestedScan]
      split_ifs
      · rfl
      · exact State.startScan_eq _
    | config => rfl
    | halt => rfl

/-- Some record of a wait list is marked in a scan state (R66). -/
def someMarked (waitList : List RecNo) (scan : Scan) : Bool :=
  waitList.any fun i => scan.marks[i]

/-- The scan state after the test for a scan's end (R66). -/
def closedScan (mode : Mode) (waitList : List RecNo) (scan : Scan) : Scan :=
  if scan.running && !someMarked waitList scan then
    (if mode = .run ∧ scan.rescan = true then startedScan waitList else Scan.idle)
  else scan

theorem State.closeScan_eq (s : State) : s.closeScan = { s with scan := closedScan s.mode s.waitList s.scan } := by
  unfold State.closeScan closedScan
  change (if (s.scan.running && !someMarked s.waitList s.scan) = true then _ else _) = _
  split_ifs
  · exact s.startScan_eq
  · rfl
  · rfl

/-- A scan request, with the test for a scan's end after it, changes the scan state alone (R64, R66). -/
theorem State.rescan_eq (s : State) :
    s.rescan = { s with scan := closedScan s.mode s.waitList (requestedScan s.mode s.waitList s.scan) } := by
  unfold State.rescan
  rw [State.closeScan_eq, State.requestScan_eq]

/-! ### Leaving the table -/

/-- A record that becomes FREE (R32, R52, R63). -/
theorem State.unbind_eq (s : State) (i : RecNo) (h : Handle) (r : Result) : s.unbind i h r = s.withFreed i h r := rfl

/-- The retirement of an active claim (R53). -/
theorem State.retireActive_eq (s : State) (i : RecNo) (h : Handle) (g : Grant) (r : Result) (p : Pose) (a : Arc) :
    s.retireActive i h g r p a = s.withEnded i h g r p a := by
  have tiers : (s.retireActive i h g r p a).tiers = (s.withEnded i h g r p a).tiers :=
    State.ext_tiers fun t => by
      have h1 := State.unbind_tier ((((s.returnPools g).setPermit h.tier false).stopLease h.tier).placeAt h.tier p a) i h r t
      have h2 := (((s.returnPools g).setPermit h.tier false).stopLease h.tier).placeAt_tier h.tier t p a
      have h3 := ((s.returnPools g).setPermit h.tier false).stopLease_tier h.tier t
      have h4 := ((s.returnPools g).setPermit h.tier false).stopLease_tier h.tier h.tier
      have h5 : (s.withEnded i h g r p a).tier t = if h.tier = t then
          { s.tier h.tier with
            rest := p, standing := some a, tracked := p, havePose := true, lease := 0, leaseRunning := false,
            legs := (s.tier h.tier).legs.filter fun k => k != h.slot } else s.tier t := s.setTier_tier h.tier t _
      refine (h1.trans ?_).trans h5.symm
      rw [h2, h3, h4]
      by_cases e : h.tier = t
      · subst e; simp
      · simp [e]
  revert tiers
  simp only [State.retireActive, State.unbind, State.post, State.setMailbox, State.unmark, State.setRecord, State.setTier,
    State.placeAt, State.stopLease, State.setPermit, State.returnPools, State.withEnded]
  intro tiers
  rw [tiers]

/-- The retirement of a WAITING claim (R52). -/
theorem State.retireWaiting_waiting {s : State} {i : RecNo} {c : Claim} (r : Result) (hc : s.record i = some c)
    (hw : c.phase = .waiting) : s.retireWaiting i r = s.withFreed i c.handle r := by
  simp [State.retireWaiting, hc, (Claim.isWaiting_iff c).mpr hw, State.unbind_eq]

/-! ### Freezes and hard faults -/

/-- A freeze: FROZEN with its fields, PERMIT and lease off, mailbox written; nothing else differs (R48). -/
theorem State.freezeWith_eq (s : State) (i : RecNo) (c : Claim) (g : Grant) :
    s.freezeWith i c g =
      { s with
        records := s.records.set i (some { c with phase := .frozen g })
        permit := s.permit.set c.handle.tier false
        tiers := s.tiers.set c.handle.tier { s.tier c.handle.tier with lease := 0, leaseRunning := false }
        mailboxes := s.mailboxes.set (handleIndex c.handle) ⟨.frozen, .granted, true⟩ } := rfl

/-- The freeze of a tier's head claim that is GRANTED or STOPPING (R48). -/
theorem State.freezeHead_active {s : State} {t : TierNo} {i : RecNo} {c : Claim} {g : Grant}
    (hh : s.headClaim t = some (i, c)) (hp : c.phase = .granted g ∨ c.phase = .stopping g) :
    s.freezeHead t = s.freezeWith i c g := by
  rcases hp with hp | hp <;> simp [State.freezeHead, hh, hp]

/-- No freeze where the tier has no head claim in those states (R127). -/
theorem State.freezeHead_idle {s : State} {t : TierNo}
    (hh : ∀ i c g, s.headClaim t = some (i, c) → c.phase ≠ .granted g ∧ c.phase ≠ .stopping g) : s.freezeHead t = s := by
  unfold State.freezeHead
  cases hc : s.headClaim t with
  | none => rfl
  | some x =>
    rcases x with ⟨i, c⟩
    cases hp : c.phase with
    | granted g => exact absurd hp (hh i c g hc).1
    | stopping g => exact absurd hp (hh i c g hc).2
    | waiting => simp [hp]
    | frozen g => simp [hp]

/-- The tier hard-fault event, its loops closed (R127 to R129). -/
theorem State.hardFaultEvent_eq (s : State) (t : TierNo) (k : HardKind) :
    s.hardFaultEvent t k =
      let faulted := ((s.setTier t { s.tier t with fault := some k }).freezeHead t).withRetired
        (fun c => c.handle.tier == t) .tierFault
      let stopped :=
        match s.spaceRecord t with
        | none => faulted
        | some a =>
          faulted.withStopped fun h b => h.tier != t && (hazardArc faulted.globals.stopMargin a).overlaps b
      if s.anyClaim fun c => c.isWaiting && c.handle.tier == t then stopped.rescan else stopped := by
  unfold State.hardFaultEvent State.hazardStopAround State.hazardStop
  simp only [State.retireWaitingWhere_eq, State.stopWhere_eq]
  rfl

/-- A hard fault of a tier whose fault kind is none (R127). -/
theorem State.hardFault_first {s : State} {t : TierNo} (k : HardKind) (slot : Option SlotNo) (p : Pose)
    (h : (s.tier t).fault = none) :
    s.hardFault t k slot p = (s.raise (.tier k) (some t) slot (some p)).hardFaultEvent t k := by
  simp [State.hardFault, h]

/-- A hard fault of a tier whose fault kind is set reaches the Fault Capture alone (R130). -/
theorem State.hardFault_again {s : State} {t : TierNo} {k' : HardKind} (k : HardKind) (slot : Option SlotNo) (p : Pose)
    (h : (s.tier t).fault = some k') :
    s.hardFault t k slot p = s.raise (.tier k) (some t) slot (some p) := by
  simp [State.hardFault, h]

/-! ### Console commands -/

/-- The execution of a command that is due (R166). -/
theorem State.execute_due {s : State} {e : CpEntry} {rest : List CpEntry} {code : Nat} (h : s.CommandDue e rest code)
    (run : CpEntry → State → State × Answer) :
    (s.powered fun s => s.execute code run) =
      (run e { s with cpFifo := rest }).1.reply ((run e { s with cpFifo := rest }).2.reply e.tag) := by
  rw [State.powered_of_high h.powered]
  unfold State.execute State.executeIf
  rw [h.oldest]
  simp [h.room, h.full, h.code]

/-- No command is executed while the reply FIFO holds 16 replies (R168). -/
theorem State.executeIf_full {s : State} (h : 16 ≤ s.replies.length) (due : CpEntry → Bool)
    (run : CpEntry → State → State × Answer) : s.executeIf due run = s := by
  unfold State.executeIf
  cases s.cpFifo with
  | nil => rfl
  | cons e rest => simp [Nat.not_lt.mpr h]

end Sys2Proof.Machine
end

