-- ==== Sys2Proof/Laws/Exec.lean ====
section
/-! SUPPORT. exec of each event with RESETN high, as the operation its meaning is; of a console command that is due, as the
reply to what the command does. Proofs about exec start from these and unfold neither exec nor a meaning. -/

namespace Sys2Proof.Machine

/-! ### Events with RESETN high -/

theorem exec_stopnAssertion {s : State} (h : s.resetHeld = false) :
    exec .stopnAssertion s = .next (s.stopnAssert) :=
  congrArg Host.Outcome.next (State.powered_of_high h _)

theorem exec_stopnRelease {s : State} (h : s.resetHeld = false) :
    exec .stopnRelease s = .next (s.stopnRise) :=
  congrArg Host.Outcome.next (State.powered_of_high h _)

theorem exec_tick {s : State} (order : List TierNo) (h : s.resetHeld = false) :
    exec (.tick order) s = .next (s.tickAll order) :=
  congrArg Host.Outcome.next (State.powered_of_high h _)

theorem exec_leaseExpiry {s : State} (t : TierNo) (h : s.resetHeld = false) :
    exec (.leaseExpiry t) s = .next (s.leaseExpiry t) :=
  congrArg Host.Outcome.next (State.powered_of_high h _)

theorem exec_mpFrameArrival {s : State} (f : Frame) (h : s.resetHeld = false) :
    exec (.mpFrameArrival f) s = .next (s.mpArrival f) :=
  congrArg Host.Outcome.next (State.powered_of_high h _)

theorem exec_mpReceiveError {s : State} (h : s.resetHeld = false) :
    exec .mpReceiveError s = .next ({ s with mpPort := s.mpPort.receiveError }) :=
  congrArg Host.Outcome.next (State.powered_of_high h _)

theorem exec_busOffRecovery {s : State} (h : s.resetHeld = false) :
    exec .busOffRecovery s = .next ({ s with mpPort := s.mpPort.recover }) :=
  congrArg Host.Outcome.next (State.powered_of_high h _)

theorem exec_disabledEntryDiscard {s : State} (h : s.resetHeld = false) :
    exec .disabledEntryDiscard s = .next (s.discardDisabled) :=
  congrArg Host.Outcome.next (State.powered_of_high h _)

theorem exec_claim {s : State} (h : s.resetHeld = false) :
    exec .claim s = .next (s.takeClaim) :=
  congrArg Host.Outcome.next (State.powered_of_high h _)

theorem exec_cancel {s : State} (h : s.resetHeld = false) :
    exec .cancel s = .next (s.takeCancel) :=
  congrArg Host.Outcome.next (State.powered_of_high h _)

theorem exec_report {s : State} (h : s.resetHeld = false) :
    exec .report s = .next (s.takeReport) :=
  congrArg Host.Outcome.next (State.powered_of_high h _)

theorem exec_release {s : State} (h : s.resetHeld = false) :
    exec .release s = .next (s.takeRelease) :=
  congrArg Host.Outcome.next (State.powered_of_high h _)

theorem exec_visit {s : State} (h : s.resetHeld = false) :
    exec .visit s = .next (s.visit) :=
  congrArg Host.Outcome.next (State.powered_of_high h _)

theorem exec_noticeStart {s : State} (h : s.resetHeld = false) :
    exec .noticeStart s = .next (s.noticeStart) :=
  congrArg Host.Outcome.next (State.powered_of_high h _)

theorem exec_noticeCompletion {s : State} (h : s.resetHeld = false) :
    exec .noticeCompletion s = .next (s.noticeComplete) :=
  congrArg Host.Outcome.next (State.powered_of_high h _)

theorem exec_noticeFailure {s : State} (why : TxFailure) (h : s.resetHeld = false) :
    exec (.noticeFailure why) s = .next (s.noticeFail why) :=
  congrArg Host.Outcome.next (State.powered_of_high h _)

theorem exec_cpCommandArrival {s : State} (f : Frame) (h : s.resetHeld = false) :
    exec (.cpCommandArrival f) s = .next (s.cpArrival f) :=
  congrArg Host.Outcome.next (State.powered_of_high h _)

theorem exec_cpReceiveError {s : State} (h : s.resetHeld = false) :
    exec .cpReceiveError s = .next ({ s with cpPort := s.cpPort.receiveError }) :=
  congrArg Host.Outcome.next (State.powered_of_high h _)

theorem exec_cpBusOffRecovery {s : State} (h : s.resetHeld = false) :
    exec .cpBusOffRecovery s = .next ({ s with cpPort := s.cpPort.recover }) :=
  congrArg Host.Outcome.next (State.powered_of_high h _)

theorem exec_replyStart {s : State} (h : s.resetHeld = false) :
    exec .replyStart s = .next (s.replyStart) :=
  congrArg Host.Outcome.next (State.powered_of_high h _)

theorem exec_replyCompletion {s : State} (h : s.resetHeld = false) :
    exec .replyCompletion s = .next (s.replyComplete) :=
  congrArg Host.Outcome.next (State.powered_of_high h _)

theorem exec_replyFailure {s : State} (why : TxFailure) (h : s.resetHeld = false) :
    exec (.replyFailure why) s = .next (s.replyFail why) :=
  congrArg Host.Outcome.next (State.powered_of_high h _)

theorem exec_unknownCommand {s : State} (h : s.resetHeld = false) :
    exec .unknownCommand s = .next (s.executeIf (fun e => !e.isKnown) doUnknown) :=
  congrArg Host.Outcome.next (State.powered_of_high h _)

/-! ### Console commands that are due -/

/-- The part after the execution of a command that did `r` (R166). -/
def State.afterCommand (e : CpEntry) (r : State × Answer) : State :=
  r.1.reply (r.2.reply e.tag)

theorem exec_readStatus {s : State} {e : CpEntry} {rest : List CpEntry} (h : s.CommandDue e rest 0x01) :
    exec .readStatus s = .next (State.afterCommand e (doReadStatus e { s with cpFifo := rest })) :=
  congrArg Host.Outcome.next (State.execute_due h _)

theorem exec_setMask {s : State} {e : CpEntry} {rest : List CpEntry} (h : s.CommandDue e rest 0x02) :
    exec .setMask s = .next (State.afterCommand e (doSetMask e { s with cpFifo := rest })) :=
  congrArg Host.Outcome.next (State.execute_due h _)

theorem exec_readFault {s : State} {e : CpEntry} {rest : List CpEntry} (h : s.CommandDue e rest 0x03) :
    exec .readFault s = .next (State.afterCommand e (doReadFault e { s with cpFifo := rest })) :=
  congrArg Host.Outcome.next (State.execute_due h _)

theorem exec_clearFault {s : State} {e : CpEntry} {rest : List CpEntry} (h : s.CommandDue e rest 0x04) :
    exec .clearFault s = .next (State.afterCommand e (doClearFault e { s with cpFifo := rest })) :=
  congrArg Host.Outcome.next (State.execute_due h _)

theorem exec_setMode {s : State} {e : CpEntry} {rest : List CpEntry} (h : s.CommandDue e rest 0x05) :
    exec .setMode s = .next (State.afterCommand e (doSetMode e { s with cpFifo := rest })) :=
  congrArg Host.Outcome.next (State.execute_due h _)

theorem exec_halt {s : State} {e : CpEntry} {rest : List CpEntry} (h : s.CommandDue e rest 0x06) :
    exec .halt s = .next (State.afterCommand e (doHalt e { s with cpFifo := rest })) :=
  congrArg Host.Outcome.next (State.execute_due h _)

theorem exec_resume {s : State} {e : CpEntry} {rest : List CpEntry} (h : s.CommandDue e rest 0x07) :
    exec .resume s = .next (State.afterCommand e (doResume e { s with cpFifo := rest })) :=
  congrArg Host.Outcome.next (State.execute_due h _)

theorem exec_softReset {s : State} {e : CpEntry} {rest : List CpEntry} (h : s.CommandDue e rest 0x08) :
    exec .softReset s = .next (State.afterCommand e (doSoftReset e { s with cpFifo := rest })) :=
  congrArg Host.Outcome.next (State.execute_due h _)

theorem exec_writeTier {s : State} {e : CpEntry} {rest : List CpEntry} (h : s.CommandDue e rest 0x10) :
    exec .writeTier s = .next (State.afterCommand e (doWriteTier e { s with cpFifo := rest })) :=
  congrArg Host.Outcome.next (State.execute_due h _)

theorem exec_readTier {s : State} {e : CpEntry} {rest : List CpEntry} (h : s.CommandDue e rest 0x11) :
    exec .readTier s = .next (State.afterCommand e (doReadTier e { s with cpFifo := rest })) :=
  congrArg Host.Outcome.next (State.execute_due h _)

theorem exec_setRest {s : State} {e : CpEntry} {rest : List CpEntry} (h : s.CommandDue e rest 0x12) :
    exec .setRest s = .next (State.afterCommand e (doSetRest e { s with cpFifo := rest })) :=
  congrArg Host.Outcome.next (State.execute_due h _)

theorem exec_adopt {s : State} {e : CpEntry} {rest : List CpEntry} (h : s.CommandDue e rest 0x13) :
    exec .adopt s = .next (State.afterCommand e (doAdopt e { s with cpFifo := rest })) :=
  congrArg Host.Outcome.next (State.execute_due h _)

theorem exec_writeGlobal {s : State} {e : CpEntry} {rest : List CpEntry} (h : s.CommandDue e rest 0x14) :
    exec .writeGlobal s = .next (State.afterCommand e (doWriteGlobal e { s with cpFifo := rest })) :=
  congrArg Host.Outcome.next (State.execute_due h _)

theorem exec_readGlobal {s : State} {e : CpEntry} {rest : List CpEntry} (h : s.CommandDue e rest 0x15) :
    exec .readGlobal s = .next (State.afterCommand e (doReadGlobal e { s with cpFifo := rest })) :=
  congrArg Host.Outcome.next (State.execute_due h _)

theorem exec_writeCeiling {s : State} {e : CpEntry} {rest : List CpEntry} (h : s.CommandDue e rest 0x16) :
    exec .writeCeiling s = .next (State.afterCommand e (doWriteCeiling e { s with cpFifo := rest })) :=
  congrArg Host.Outcome.next (State.execute_due h _)

theorem exec_setPool {s : State} {e : CpEntry} {rest : List CpEntry} (h : s.CommandDue e rest 0x20) :
    exec .setPool s = .next (State.afterCommand e (doSetPool e { s with cpFifo := rest })) :=
  congrArg Host.Outcome.next (State.execute_due h _)

theorem exec_placeHold {s : State} {e : CpEntry} {rest : List CpEntry} (h : s.CommandDue e rest 0x21) :
    exec .placeHold s = .next (State.afterCommand e (doPlaceHold e { s with cpFifo := rest })) :=
  congrArg Host.Outcome.next (State.execute_due h _)

theorem exec_liftHold {s : State} {e : CpEntry} {rest : List CpEntry} (h : s.CommandDue e rest 0x22) :
    exec .liftHold s = .next (State.afterCommand e (doLiftHold e { s with cpFifo := rest })) :=
  congrArg Host.Outcome.next (State.execute_due h _)

theorem exec_cancelClaim {s : State} {e : CpEntry} {rest : List CpEntry} (h : s.CommandDue e rest 0x23) :
    exec .cancelClaim s = .next (State.afterCommand e (doCancelClaim e { s with cpFifo := rest })) :=
  congrArg Host.Outcome.next (State.execute_due h _)

theorem exec_clearTier {s : State} {e : CpEntry} {rest : List CpEntry} (h : s.CommandDue e rest 0x24) :
    exec .clearTier s = .next (State.afterCommand e (doClearTier e { s with cpFifo := rest })) :=
  congrArg Host.Outcome.next (State.execute_due h _)

theorem exec_setCursor {s : State} {e : CpEntry} {rest : List CpEntry} (h : s.CommandDue e rest 0x30) :
    exec .setCursor s = .next (State.afterCommand e (doSetCursor e { s with cpFifo := rest })) :=
  congrArg Host.Outcome.next (State.execute_due h _)

theorem exec_readNext {s : State} {e : CpEntry} {rest : List CpEntry} (h : s.CommandDue e rest 0x31) :
    exec .readNext s = .next (State.afterCommand e (doReadNext e { s with cpFifo := rest })) :=
  congrArg Host.Outcome.next (State.execute_due h _)

/-- What a command answers, as `State.answer` writes it. -/
theorem State.afterCommand_of (s : State) (e : CpEntry) (rest : List CpEntry) (f : State → State) (st : Status)
    (results : List Byte) :
    State.afterCommand e (f { s with cpFifo := rest }, Answer.of st results) = s.answer e rest f st results := rfl

/-- A refused command, as `State.refusal` writes it. -/
theorem State.afterCommand_refuse (s : State) (e : CpEntry) (rest : List CpEntry) (st : Status) :
    State.afterCommand e ({ s with cpFifo := rest }, Answer.refuse st) = s.refusal e rest st := rfl

end Sys2Proof.Machine
end

