-- ==== Sys2Proof/Laws/Events.lean ====
section
/-! SUPPORT. The entries of the MP inbound FIFO as their owners take them, the steps of a REPORT and a RELEASE up to the handling,
a visit up to the evaluation, and a grant: each once, for the proofs about exec. -/

namespace Sys2Proof.Machine

/-! ### Entries that are due -/

/-- A CLAIM entry that is due reaches the Claim Store (R157). -/
theorem exec_claim_due {s : State} {h : Handle} {d : List Byte} {rest : List MpEntry} (hd : s.EntryDue (.claim h d) rest) :
    exec .claim s = .next ({ s with mpFifo := rest }.arriveClaim h d) := by
  rw [exec_claim hd.powered]
  unfold State.takeClaim
  rw [hd.oldest]
  exact congrArg _ (if_pos hd.enabled)

/-- A CANCEL entry that is due reaches the Claim Store (R157). -/
theorem exec_cancel_due {s : State} {h : Handle} {rest : List MpEntry} (hd : s.EntryDue (.cancel h) rest) :
    exec .cancel s = .next ({ s with mpFifo := rest }.cancelHandle h) := by
  rw [exec_cancel hd.powered]
  unfold State.takeCancel
  rw [hd.oldest]
  exact congrArg _ (if_pos hd.enabled)

/-- A REPORT entry that is due reaches the Motion Supervisor (R157). -/
theorem exec_report_due {s : State} {t : TierNo} {d : List Byte} {rest : List MpEntry}
    (hd : s.EntryDue (.report t d) rest) : exec .report s = .next ({ s with mpFifo := rest }.arriveReport t d) := by
  rw [exec_report hd.powered]
  unfold State.takeReport
  rw [hd.oldest]
  exact congrArg _ (if_pos hd.enabled)

/-- A RELEASE entry that is due reaches the Motion Supervisor (R157). -/
theorem exec_release_due {s : State} {h : Handle} {d : List Byte} {rest : List MpEntry}
    (hd : s.EntryDue (.release h d) rest) : exec .release s = .next ({ s with mpFifo := rest }.arriveRelease h d) := by
  rw [exec_release hd.powered]
  unfold State.takeRelease
  rw [hd.oldest]
  exact congrArg _ (if_pos hd.enabled)

/-! ### Sequence, clamp and tracking -/

/-- The first steps of an accepted REPORT, as `State.reported` writes them (R103, R104). -/
theorem State.reported_eq (s : State) (t : TierNo) (seq raw : Nat) (p : Pose) :
    ((s.noteSequence t seq p).noteClamp t none raw p).track t p = s.reported t seq raw p := by
  unfold State.noteSequence State.noteClamp State.track State.reported
  simp only [State.raise_eq, State.setTier]
  split_ifs <;> simp_all [State.tier]

/-- The first step of a RELEASE of an active claim, as `State.released` writes it (R117). -/
theorem State.released_eq (s : State) (h : Handle) (raw : Nat) (p : Pose) :
    (s.noteClamp h.tier (some h.slot) raw p).track h.tier p = s.released h raw p := by
  unfold State.noteClamp State.track State.released
  split_ifs <;> simp only [State.raise_eq, State.setTier]
  rfl

/-! ### Visits -/

/-- A visit of a scan in RUN is a visit to the first marked record (R67). -/
theorem exec_visit_first {s : State} {i : RecNo} (h : s.resetHeld = false) (hr : s.scan.running = true)
    (hm : s.mode = .run) (hf : s.FirstMarked i) : exec .visit s = .next (s.visitRecord i).closeScan.settle := by
  rw [exec_visit h]
  unfold State.visit
  have found : s.waitList.find? s.marked = some i := by
    obtain ⟨l, l', h1, h2, h3⟩ := hf
    rw [h1, List.find?_append, List.find?_eq_none.mpr (by intro x hx; simp [h3 x hx])]
    simp [h2]
  simp [hr, hm, found]

/-- A visit to an eligible claim is its evaluation, after its mark is cleared (R67). -/
theorem exec_visit_eligible {s : State} {i : RecNo} {c : Claim} (h : s.Visited i c) :
    exec .visit s = .next ((s.unmark i).evaluate i c).closeScan.settle := by
  rw [exec_visit_first h.powered h.running h.mode h.first]
  unfold State.visitRecord
  rw [show (s.unmark i).record i = some c from h.claim]
  have eligible : (s.unmark i).eligible c = true := by
    have h1 : (s.unmark i).tierState c.handle.tier = s.tierState c.handle.tier := rfl
    have h2 : (s.unmark i).tier c.handle.tier = s.tier c.handle.tier := rfl
    simp [State.eligible, h1, h2, h.mode, h.head, h.idle]
  simp [eligible]

/-- A grant, each item it changes written out (R75, R76, R93, R162). -/
theorem State.grant_eq (s : State) (i : RecNo) (c : Claim) (g : Grant) :
    s.grant i c g =
      { s with
        records := s.records.set i (some { c with phase := .granted g })
        waitList := s.waitList.filter fun j => j != i
        scan := { s.scan with marks := s.scan.marks.set i false }
        hyd := { s.hyd with committed := s.hyd.committed + g.hydDraw }
        slew := { s.slew with committed := s.slew.committed + g.slewDraw }
        tiers := s.tiers.set c.handle.tier
          { s.tier c.handle.tier with lease := s.globals.leasePeriod, leaseRunning := true }
        permit := s.permit.set c.handle.tier true
        mailboxes := s.mailboxes.set (handleIndex c.handle) ⟨.granted, .granted, true⟩ } := by
  simp only [State.grant, State.post, State.setMailbox, State.setPermit, State.loadLease, State.setTier, State.drawPools,
    State.unmark, State.setRecord]
  unfold State.tier
  rfl

end Sys2Proof.Machine
end

