-- ==== Sys2Proof/Laws/Frames.lean ====
section
/-! SUPPORT. What a fault report, a scan request, a freeze, and the stops and retirements of many claims leave as it was, field by field.
Proofs about a chain of these cite them and compare no two states whole. -/

namespace Sys2Proof.Machine

variable (s : State)

/-! ### raise -/

@[simp] theorem State.raise_resetHeld (k : FaultKind) (t : Option TierNo) (slot : Option SlotNo) (pose : Option Pose) :
    (s.raise k t slot pose).resetHeld = s.resetHeld := by rw [State.raise_eq]
@[simp] theorem State.raise_stopnLow (k : FaultKind) (t : Option TierNo) (slot : Option SlotNo) (pose : Option Pose) :
    (s.raise k t slot pose).stopnLow = s.stopnLow := by rw [State.raise_eq]
@[simp] theorem State.raise_mode (k : FaultKind) (t : Option TierNo) (slot : Option SlotNo) (pose : Option Pose) :
    (s.raise k t slot pose).mode = s.mode := by rw [State.raise_eq]
@[simp] theorem State.raise_tiers (k : FaultKind) (t : Option TierNo) (slot : Option SlotNo) (pose : Option Pose) :
    (s.raise k t slot pose).tiers = s.tiers := by rw [State.raise_eq]
@[simp] theorem State.raise_globals (k : FaultKind) (t : Option TierNo) (slot : Option SlotNo) (pose : Option Pose) :
    (s.raise k t slot pose).globals = s.globals := by rw [State.raise_eq]
@[simp] theorem State.raise_ceilings (k : FaultKind) (t : Option TierNo) (slot : Option SlotNo) (pose : Option Pose) :
    (s.raise k t slot pose).ceilings = s.ceilings := by rw [State.raise_eq]
@[simp] theorem State.raise_records (k : FaultKind) (t : Option TierNo) (slot : Option SlotNo) (pose : Option Pose) :
    (s.raise k t slot pose).records = s.records := by rw [State.raise_eq]
@[simp] theorem State.raise_mailboxes (k : FaultKind) (t : Option TierNo) (slot : Option SlotNo) (pose : Option Pose) :
    (s.raise k t slot pose).mailboxes = s.mailboxes := by rw [State.raise_eq]
@[simp] theorem State.raise_waitList (k : FaultKind) (t : Option TierNo) (slot : Option SlotNo) (pose : Option Pose) :
    (s.raise k t slot pose).waitList = s.waitList := by rw [State.raise_eq]
@[simp] theorem State.raise_scan (k : FaultKind) (t : Option TierNo) (slot : Option SlotNo) (pose : Option Pose) :
    (s.raise k t slot pose).scan = s.scan := by rw [State.raise_eq]
@[simp] theorem State.raise_holds (k : FaultKind) (t : Option TierNo) (slot : Option SlotNo) (pose : Option Pose) :
    (s.raise k t slot pose).holds = s.holds := by rw [State.raise_eq]
@[simp] theorem State.raise_hyd (k : FaultKind) (t : Option TierNo) (slot : Option SlotNo) (pose : Option Pose) :
    (s.raise k t slot pose).hyd = s.hyd := by rw [State.raise_eq]
@[simp] theorem State.raise_slew (k : FaultKind) (t : Option TierNo) (slot : Option SlotNo) (pose : Option Pose) :
    (s.raise k t slot pose).slew = s.slew := by rw [State.raise_eq]
@[simp] theorem State.raise_mpFifo (k : FaultKind) (t : Option TierNo) (slot : Option SlotNo) (pose : Option Pose) :
    (s.raise k t slot pose).mpFifo = s.mpFifo := by rw [State.raise_eq]
@[simp] theorem State.raise_mpPort (k : FaultKind) (t : Option TierNo) (slot : Option SlotNo) (pose : Option Pose) :
    (s.raise k t slot pose).mpPort = s.mpPort := by rw [State.raise_eq]
@[simp] theorem State.raise_mpTx (k : FaultKind) (t : Option TierNo) (slot : Option SlotNo) (pose : Option Pose) :
    (s.raise k t slot pose).mpTx = s.mpTx := by rw [State.raise_eq]
@[simp] theorem State.raise_permit (k : FaultKind) (t : Option TierNo) (slot : Option SlotNo) (pose : Option Pose) :
    (s.raise k t slot pose).permit = s.permit := by rw [State.raise_eq]
@[simp] theorem State.raise_cpFifo (k : FaultKind) (t : Option TierNo) (slot : Option SlotNo) (pose : Option Pose) :
    (s.raise k t slot pose).cpFifo = s.cpFifo := by rw [State.raise_eq]
@[simp] theorem State.raise_replies (k : FaultKind) (t : Option TierNo) (slot : Option SlotNo) (pose : Option Pose) :
    (s.raise k t slot pose).replies = s.replies := by rw [State.raise_eq]
@[simp] theorem State.raise_cpPort (k : FaultKind) (t : Option TierNo) (slot : Option SlotNo) (pose : Option Pose) :
    (s.raise k t slot pose).cpPort = s.cpPort := by rw [State.raise_eq]
@[simp] theorem State.raise_cpTx (k : FaultKind) (t : Option TierNo) (slot : Option SlotNo) (pose : Option Pose) :
    (s.raise k t slot pose).cpTx = s.cpTx := by rw [State.raise_eq]
@[simp] theorem State.raise_cursor (k : FaultKind) (t : Option TierNo) (slot : Option SlotNo) (pose : Option Pose) :
    (s.raise k t slot pose).cursor = s.cursor := by rw [State.raise_eq]
@[simp] theorem State.raise_flags (k : FaultKind) (t : Option TierNo) (slot : Option SlotNo) (pose : Option Pose) :
    (s.raise k t slot pose).flags = s.flags := by rw [State.raise_eq]
@[simp] theorem State.raise_enables (k : FaultKind) (t : Option TierNo) (slot : Option SlotNo) (pose : Option Pose) :
    (s.raise k t slot pose).enables = s.enables := by rw [State.raise_eq]
@[simp] theorem State.raise_attn (k : FaultKind) (t : Option TierNo) (slot : Option SlotNo) (pose : Option Pose) :
    (s.raise k t slot pose).attn = s.attn := by rw [State.raise_eq]
@[simp] theorem State.raise_pending (k : FaultKind) (t : Option TierNo) (slot : Option SlotNo) (pose : Option Pose) :
    (s.raise k t slot pose).pending = s.pending := by rw [State.raise_eq]
@[simp] theorem State.raise_tier (k : FaultKind) (t : Option TierNo) (slot : Option SlotNo) (pose : Option Pose) (u : TierNo) :
    (s.raise k t slot pose).tier u = s.tier u := by
  simp only [State.tier, State.raise_tiers]
@[simp] theorem State.raise_record (k : FaultKind) (t : Option TierNo) (slot : Option SlotNo) (pose : Option Pose) (j : RecNo) :
    (s.raise k t slot pose).record j = s.record j := by
  simp only [State.record, State.raise_records]
@[simp] theorem State.raise_mailbox (k : FaultKind) (t : Option TierNo) (slot : Option SlotNo) (pose : Option Pose) (h : Handle) :
    (s.raise k t slot pose).mailbox h = s.mailbox h := by
  simp only [State.mailbox, State.raise_mailboxes]
@[simp] theorem State.raise_permitLine (k : FaultKind) (t : Option TierNo) (slot : Option SlotNo) (pose : Option Pose) (u : TierNo) :
    (s.raise k t slot pose).permitLine u = s.permitLine u := by
  simp only [State.permitLine, State.raise_permit]
@[simp] theorem State.raise_hold (k : FaultKind) (t : Option TierNo) (slot : Option SlotNo) (pose : Option Pose) (j : HoldNo) :
    (s.raise k t slot pose).hold j = s.hold j := by
  simp only [State.hold, State.raise_holds]
@[simp] theorem State.raise_marked (k : FaultKind) (t : Option TierNo) (slot : Option SlotNo) (pose : Option Pose) (j : RecNo) :
    (s.raise k t slot pose).marked j = s.marked j := by
  simp only [State.marked, State.raise_scan]

/-! ### closeScan -/

@[simp] theorem State.closeScan_resetHeld : (s.closeScan).resetHeld = s.resetHeld := by rw [State.closeScan_eq]
@[simp] theorem State.closeScan_stopnLow : (s.closeScan).stopnLow = s.stopnLow := by rw [State.closeScan_eq]
@[simp] theorem State.closeScan_mode : (s.closeScan).mode = s.mode := by rw [State.closeScan_eq]
@[simp] theorem State.closeScan_tiers : (s.closeScan).tiers = s.tiers := by rw [State.closeScan_eq]
@[simp] theorem State.closeScan_globals : (s.closeScan).globals = s.globals := by rw [State.closeScan_eq]
@[simp] theorem State.closeScan_ceilings : (s.closeScan).ceilings = s.ceilings := by rw [State.closeScan_eq]
@[simp] theorem State.closeScan_records : (s.closeScan).records = s.records := by rw [State.closeScan_eq]
@[simp] theorem State.closeScan_mailboxes : (s.closeScan).mailboxes = s.mailboxes := by rw [State.closeScan_eq]
@[simp] theorem State.closeScan_waitList : (s.closeScan).waitList = s.waitList := by rw [State.closeScan_eq]
@[simp] theorem State.closeScan_holds : (s.closeScan).holds = s.holds := by rw [State.closeScan_eq]
@[simp] theorem State.closeScan_hyd : (s.closeScan).hyd = s.hyd := by rw [State.closeScan_eq]
@[simp] theorem State.closeScan_slew : (s.closeScan).slew = s.slew := by rw [State.closeScan_eq]
@[simp] theorem State.closeScan_capture : (s.closeScan).capture = s.capture := by rw [State.closeScan_eq]
@[simp] theorem State.closeScan_second : (s.closeScan).second = s.second := by rw [State.closeScan_eq]
@[simp] theorem State.closeScan_mpFifo : (s.closeScan).mpFifo = s.mpFifo := by rw [State.closeScan_eq]
@[simp] theorem State.closeScan_mpPort : (s.closeScan).mpPort = s.mpPort := by rw [State.closeScan_eq]
@[simp] theorem State.closeScan_mpTx : (s.closeScan).mpTx = s.mpTx := by rw [State.closeScan_eq]
@[simp] theorem State.closeScan_permit : (s.closeScan).permit = s.permit := by rw [State.closeScan_eq]
@[simp] theorem State.closeScan_cpFifo : (s.closeScan).cpFifo = s.cpFifo := by rw [State.closeScan_eq]
@[simp] theorem State.closeScan_replies : (s.closeScan).replies = s.replies := by rw [State.closeScan_eq]
@[simp] theorem State.closeScan_cpPort : (s.closeScan).cpPort = s.cpPort := by rw [State.closeScan_eq]
@[simp] theorem State.closeScan_cpTx : (s.closeScan).cpTx = s.cpTx := by rw [State.closeScan_eq]
@[simp] theorem State.closeScan_cursor : (s.closeScan).cursor = s.cursor := by rw [State.closeScan_eq]
@[simp] theorem State.closeScan_flags : (s.closeScan).flags = s.flags := by rw [State.closeScan_eq]
@[simp] theorem State.closeScan_enables : (s.closeScan).enables = s.enables := by rw [State.closeScan_eq]
@[simp] theorem State.closeScan_attn : (s.closeScan).attn = s.attn := by rw [State.closeScan_eq]
@[simp] theorem State.closeScan_pending : (s.closeScan).pending = s.pending := by rw [State.closeScan_eq]
@[simp] theorem State.closeScan_tier (u : TierNo) :
    (s.closeScan).tier u = s.tier u := by
  simp only [State.tier, State.closeScan_tiers]
@[simp] theorem State.closeScan_record (j : RecNo) :
    (s.closeScan).record j = s.record j := by
  simp only [State.record, State.closeScan_records]
@[simp] theorem State.closeScan_mailbox (h : Handle) :
    (s.closeScan).mailbox h = s.mailbox h := by
  simp only [State.mailbox, State.closeScan_mailboxes]
@[simp] theorem State.closeScan_permitLine (u : TierNo) :
    (s.closeScan).permitLine u = s.permitLine u := by
  simp only [State.permitLine, State.closeScan_permit]
@[simp] theorem State.closeScan_hold (j : HoldNo) :
    (s.closeScan).hold j = s.hold j := by
  simp only [State.hold, State.closeScan_holds]

/-! ### rescan -/

@[simp] theorem State.rescan_resetHeld : (s.rescan).resetHeld = s.resetHeld := by rw [State.rescan_eq]
@[simp] theorem State.rescan_stopnLow : (s.rescan).stopnLow = s.stopnLow := by rw [State.rescan_eq]
@[simp] theorem State.rescan_mode : (s.rescan).mode = s.mode := by rw [State.rescan_eq]
@[simp] theorem State.rescan_tiers : (s.rescan).tiers = s.tiers := by rw [State.rescan_eq]
@[simp] theorem State.rescan_globals : (s.rescan).globals = s.globals := by rw [State.rescan_eq]
@[simp] theorem State.rescan_ceilings : (s.rescan).ceilings = s.ceilings := by rw [State.rescan_eq]
@[simp] theorem State.rescan_records : (s.rescan).records = s.records := by rw [State.rescan_eq]
@[simp] theorem State.rescan_mailboxes : (s.rescan).mailboxes = s.mailboxes := by rw [State.rescan_eq]
@[simp] theorem State.rescan_waitList : (s.rescan).waitList = s.waitList := by rw [State.rescan_eq]
@[simp] theorem State.rescan_holds : (s.rescan).holds = s.holds := by rw [State.rescan_eq]
@[simp] theorem State.rescan_hyd : (s.rescan).hyd = s.hyd := by rw [State.rescan_eq]
@[simp] theorem State.rescan_slew : (s.rescan).slew = s.slew := by rw [State.rescan_eq]
@[simp] theorem State.rescan_capture : (s.rescan).capture = s.capture := by rw [State.rescan_eq]
@[simp] theorem State.rescan_second : (s.rescan).second = s.second := by rw [State.rescan_eq]
@[simp] theorem State.rescan_mpFifo : (s.rescan).mpFifo = s.mpFifo := by rw [State.rescan_eq]
@[simp] theorem State.rescan_mpPort : (s.rescan).mpPort = s.mpPort := by rw [State.rescan_eq]
@[simp] theorem State.rescan_mpTx : (s.rescan).mpTx = s.mpTx := by rw [State.rescan_eq]
@[simp] theorem State.rescan_permit : (s.rescan).permit = s.permit := by rw [State.rescan_eq]
@[simp] theorem State.rescan_cpFifo : (s.rescan).cpFifo = s.cpFifo := by rw [State.rescan_eq]
@[simp] theorem State.rescan_replies : (s.rescan).replies = s.replies := by rw [State.rescan_eq]
@[simp] theorem State.rescan_cpPort : (s.rescan).cpPort = s.cpPort := by rw [State.rescan_eq]
@[simp] theorem State.rescan_cpTx : (s.rescan).cpTx = s.cpTx := by rw [State.rescan_eq]
@[simp] theorem State.rescan_cursor : (s.rescan).cursor = s.cursor := by rw [State.rescan_eq]
@[simp] theorem State.rescan_flags : (s.rescan).flags = s.flags := by rw [State.rescan_eq]
@[simp] theorem State.rescan_enables : (s.rescan).enables = s.enables := by rw [State.rescan_eq]
@[simp] theorem State.rescan_attn : (s.rescan).attn = s.attn := by rw [State.rescan_eq]
@[simp] theorem State.rescan_pending : (s.rescan).pending = s.pending := by rw [State.rescan_eq]
@[simp] theorem State.rescan_tier (u : TierNo) :
    (s.rescan).tier u = s.tier u := by
  simp only [State.tier, State.rescan_tiers]
@[simp] theorem State.rescan_record (j : RecNo) :
    (s.rescan).record j = s.record j := by
  simp only [State.record, State.rescan_records]
@[simp] theorem State.rescan_mailbox (h : Handle) :
    (s.rescan).mailbox h = s.mailbox h := by
  simp only [State.mailbox, State.rescan_mailboxes]
@[simp] theorem State.rescan_permitLine (u : TierNo) :
    (s.rescan).permitLine u = s.permitLine u := by
  simp only [State.permitLine, State.rescan_permit]
@[simp] theorem State.rescan_hold (j : HoldNo) :
    (s.rescan).hold j = s.hold j := by
  simp only [State.hold, State.rescan_holds]

/-! ### freezeWith -/

@[simp] theorem State.freezeWith_resetHeld (i : RecNo) (c : Claim) (g : Grant) :
    (s.freezeWith i c g).resetHeld = s.resetHeld := rfl
@[simp] theorem State.freezeWith_stopnLow (i : RecNo) (c : Claim) (g : Grant) :
    (s.freezeWith i c g).stopnLow = s.stopnLow := rfl
@[simp] theorem State.freezeWith_mode (i : RecNo) (c : Claim) (g : Grant) : (s.freezeWith i c g).mode = s.mode := rfl
@[simp] theorem State.freezeWith_globals (i : RecNo) (c : Claim) (g : Grant) :
    (s.freezeWith i c g).globals = s.globals := rfl
@[simp] theorem State.freezeWith_ceilings (i : RecNo) (c : Claim) (g : Grant) :
    (s.freezeWith i c g).ceilings = s.ceilings := rfl
@[simp] theorem State.freezeWith_waitList (i : RecNo) (c : Claim) (g : Grant) :
    (s.freezeWith i c g).waitList = s.waitList := rfl
@[simp] theorem State.freezeWith_scan (i : RecNo) (c : Claim) (g : Grant) : (s.freezeWith i c g).scan = s.scan := rfl
@[simp] theorem State.freezeWith_holds (i : RecNo) (c : Claim) (g : Grant) :
    (s.freezeWith i c g).holds = s.holds := rfl
@[simp] theorem State.freezeWith_hyd (i : RecNo) (c : Claim) (g : Grant) : (s.freezeWith i c g).hyd = s.hyd := rfl
@[simp] theorem State.freezeWith_slew (i : RecNo) (c : Claim) (g : Grant) : (s.freezeWith i c g).slew = s.slew := rfl
@[simp] theorem State.freezeWith_capture (i : RecNo) (c : Claim) (g : Grant) :
    (s.freezeWith i c g).capture = s.capture := rfl
@[simp] theorem State.freezeWith_second (i : RecNo) (c : Claim) (g : Grant) :
    (s.freezeWith i c g).second = s.second := rfl
@[simp] theorem State.freezeWith_mpFifo (i : RecNo) (c : Claim) (g : Grant) :
    (s.freezeWith i c g).mpFifo = s.mpFifo := rfl
@[simp] theorem State.freezeWith_mpPort (i : RecNo) (c : Claim) (g : Grant) :
    (s.freezeWith i c g).mpPort = s.mpPort := rfl
@[simp] theorem State.freezeWith_mpTx (i : RecNo) (c : Claim) (g : Grant) : (s.freezeWith i c g).mpTx = s.mpTx := rfl
@[simp] theorem State.freezeWith_cpFifo (i : RecNo) (c : Claim) (g : Grant) :
    (s.freezeWith i c g).cpFifo = s.cpFifo := rfl
@[simp] theorem State.freezeWith_replies (i : RecNo) (c : Claim) (g : Grant) :
    (s.freezeWith i c g).replies = s.replies := rfl
@[simp] theorem State.freezeWith_cpPort (i : RecNo) (c : Claim) (g : Grant) :
    (s.freezeWith i c g).cpPort = s.cpPort := rfl
@[simp] theorem State.freezeWith_cpTx (i : RecNo) (c : Claim) (g : Grant) : (s.freezeWith i c g).cpTx = s.cpTx := rfl
@[simp] theorem State.freezeWith_cursor (i : RecNo) (c : Claim) (g : Grant) :
    (s.freezeWith i c g).cursor = s.cursor := rfl
@[simp] theorem State.freezeWith_flags (i : RecNo) (c : Claim) (g : Grant) :
    (s.freezeWith i c g).flags = s.flags := rfl
@[simp] theorem State.freezeWith_enables (i : RecNo) (c : Claim) (g : Grant) :
    (s.freezeWith i c g).enables = s.enables := rfl
@[simp] theorem State.freezeWith_attn (i : RecNo) (c : Claim) (g : Grant) : (s.freezeWith i c g).attn = s.attn := rfl
@[simp] theorem State.freezeWith_pending (i : RecNo) (c : Claim) (g : Grant) :
    (s.freezeWith i c g).pending = s.pending := rfl
@[simp] theorem State.freezeWith_hold (i : RecNo) (c : Claim) (g : Grant) (j : HoldNo) :
    (s.freezeWith i c g).hold j = s.hold j := by
  simp only [State.hold, State.freezeWith_holds]
@[simp] theorem State.freezeWith_marked (i : RecNo) (c : Claim) (g : Grant) (j : RecNo) :
    (s.freezeWith i c g).marked j = s.marked j := by
  simp only [State.marked, State.freezeWith_scan]

/-! ### withStopped -/

@[simp] theorem State.withStopped_resetHeld (p : Handle → Arc → Bool) :
    (s.withStopped p).resetHeld = s.resetHeld := by unfold State.withStopped; rfl
@[simp] theorem State.withStopped_stopnLow (p : Handle → Arc → Bool) :
    (s.withStopped p).stopnLow = s.stopnLow := by unfold State.withStopped; rfl
@[simp] theorem State.withStopped_mode (p : Handle → Arc → Bool) :
    (s.withStopped p).mode = s.mode := by unfold State.withStopped; rfl
@[simp] theorem State.withStopped_tiers (p : Handle → Arc → Bool) :
    (s.withStopped p).tiers = s.tiers := by unfold State.withStopped; rfl
@[simp] theorem State.withStopped_globals (p : Handle → Arc → Bool) :
    (s.withStopped p).globals = s.globals := by unfold State.withStopped; rfl
@[simp] theorem State.withStopped_ceilings (p : Handle → Arc → Bool) :
    (s.withStopped p).ceilings = s.ceilings := by unfold State.withStopped; rfl
@[simp] theorem State.withStopped_waitList (p : Handle → Arc → Bool) :
    (s.withStopped p).waitList = s.waitList := by unfold State.withStopped; rfl
@[simp] theorem State.withStopped_scan (p : Handle → Arc → Bool) :
    (s.withStopped p).scan = s.scan := by unfold State.withStopped; rfl
@[simp] theorem State.withStopped_holds (p : Handle → Arc → Bool) :
    (s.withStopped p).holds = s.holds := by unfold State.withStopped; rfl
@[simp] theorem State.withStopped_hyd (p : Handle → Arc → Bool) :
    (s.withStopped p).hyd = s.hyd := by unfold State.withStopped; rfl
@[simp] theorem State.withStopped_slew (p : Handle → Arc → Bool) :
    (s.withStopped p).slew = s.slew := by unfold State.withStopped; rfl
@[simp] theorem State.withStopped_capture (p : Handle → Arc → Bool) :
    (s.withStopped p).capture = s.capture := by unfold State.withStopped; rfl
@[simp] theorem State.withStopped_second (p : Handle → Arc → Bool) :
    (s.withStopped p).second = s.second := by unfold State.withStopped; rfl
@[simp] theorem State.withStopped_mpFifo (p : Handle → Arc → Bool) :
    (s.withStopped p).mpFifo = s.mpFifo := by unfold State.withStopped; rfl
@[simp] theorem State.withStopped_mpPort (p : Handle → Arc → Bool) :
    (s.withStopped p).mpPort = s.mpPort := by unfold State.withStopped; rfl
@[simp] theorem State.withStopped_mpTx (p : Handle → Arc → Bool) :
    (s.withStopped p).mpTx = s.mpTx := by unfold State.withStopped; rfl
@[simp] theorem State.withStopped_cpFifo (p : Handle → Arc → Bool) :
    (s.withStopped p).cpFifo = s.cpFifo := by unfold State.withStopped; rfl
@[simp] theorem State.withStopped_replies (p : Handle → Arc → Bool) :
    (s.withStopped p).replies = s.replies := by unfold State.withStopped; rfl
@[simp] theorem State.withStopped_cpPort (p : Handle → Arc → Bool) :
    (s.withStopped p).cpPort = s.cpPort := by unfold State.withStopped; rfl
@[simp] theorem State.withStopped_cpTx (p : Handle → Arc → Bool) :
    (s.withStopped p).cpTx = s.cpTx := by unfold State.withStopped; rfl
@[simp] theorem State.withStopped_cursor (p : Handle → Arc → Bool) :
    (s.withStopped p).cursor = s.cursor := by unfold State.withStopped; rfl
@[simp] theorem State.withStopped_flags (p : Handle → Arc → Bool) :
    (s.withStopped p).flags = s.flags := by unfold State.withStopped; rfl
@[simp] theorem State.withStopped_enables (p : Handle → Arc → Bool) :
    (s.withStopped p).enables = s.enables := by unfold State.withStopped; rfl
@[simp] theorem State.withStopped_attn (p : Handle → Arc → Bool) :
    (s.withStopped p).attn = s.attn := by unfold State.withStopped; rfl
@[simp] theorem State.withStopped_pending (p : Handle → Arc → Bool) :
    (s.withStopped p).pending = s.pending := by unfold State.withStopped; rfl
@[simp] theorem State.withStopped_hold (p : Handle → Arc → Bool) (j : HoldNo) :
    (s.withStopped p).hold j = s.hold j := by
  simp only [State.hold, State.withStopped_holds]
@[simp] theorem State.withStopped_marked (p : Handle → Arc → Bool) (j : RecNo) :
    (s.withStopped p).marked j = s.marked j := by
  simp only [State.marked, State.withStopped_scan]

/-! ### withRetired -/

@[simp] theorem State.withRetired_resetHeld (p : Claim → Bool) (r : Result) :
    (s.withRetired p r).resetHeld = s.resetHeld := by unfold State.withRetired; rfl
@[simp] theorem State.withRetired_stopnLow (p : Claim → Bool) (r : Result) :
    (s.withRetired p r).stopnLow = s.stopnLow := by unfold State.withRetired; rfl
@[simp] theorem State.withRetired_mode (p : Claim → Bool) (r : Result) :
    (s.withRetired p r).mode = s.mode := by unfold State.withRetired; rfl
@[simp] theorem State.withRetired_globals (p : Claim → Bool) (r : Result) :
    (s.withRetired p r).globals = s.globals := by unfold State.withRetired; rfl
@[simp] theorem State.withRetired_ceilings (p : Claim → Bool) (r : Result) :
    (s.withRetired p r).ceilings = s.ceilings := by unfold State.withRetired; rfl
@[simp] theorem State.withRetired_holds (p : Claim → Bool) (r : Result) :
    (s.withRetired p r).holds = s.holds := by unfold State.withRetired; rfl
@[simp] theorem State.withRetired_hyd (p : Claim → Bool) (r : Result) :
    (s.withRetired p r).hyd = s.hyd := by unfold State.withRetired; rfl
@[simp] theorem State.withRetired_slew (p : Claim → Bool) (r : Result) :
    (s.withRetired p r).slew = s.slew := by unfold State.withRetired; rfl
@[simp] theorem State.withRetired_capture (p : Claim → Bool) (r : Result) :
    (s.withRetired p r).capture = s.capture := by unfold State.withRetired; rfl
@[simp] theorem State.withRetired_second (p : Claim → Bool) (r : Result) :
    (s.withRetired p r).second = s.second := by unfold State.withRetired; rfl
@[simp] theorem State.withRetired_mpFifo (p : Claim → Bool) (r : Result) :
    (s.withRetired p r).mpFifo = s.mpFifo := by unfold State.withRetired; rfl
@[simp] theorem State.withRetired_mpPort (p : Claim → Bool) (r : Result) :
    (s.withRetired p r).mpPort = s.mpPort := by unfold State.withRetired; rfl
@[simp] theorem State.withRetired_mpTx (p : Claim → Bool) (r : Result) :
    (s.withRetired p r).mpTx = s.mpTx := by unfold State.withRetired; rfl
@[simp] theorem State.withRetired_permit (p : Claim → Bool) (r : Result) :
    (s.withRetired p r).permit = s.permit := by unfold State.withRetired; rfl
@[simp] theorem State.withRetired_cpFifo (p : Claim → Bool) (r : Result) :
    (s.withRetired p r).cpFifo = s.cpFifo := by unfold State.withRetired; rfl
@[simp] theorem State.withRetired_replies (p : Claim → Bool) (r : Result) :
    (s.withRetired p r).replies = s.replies := by unfold State.withRetired; rfl
@[simp] theorem State.withRetired_cpPort (p : Claim → Bool) (r : Result) :
    (s.withRetired p r).cpPort = s.cpPort := by unfold State.withRetired; rfl
@[simp] theorem State.withRetired_cpTx (p : Claim → Bool) (r : Result) :
    (s.withRetired p r).cpTx = s.cpTx := by unfold State.withRetired; rfl
@[simp] theorem State.withRetired_cursor (p : Claim → Bool) (r : Result) :
    (s.withRetired p r).cursor = s.cursor := by unfold State.withRetired; rfl
@[simp] theorem State.withRetired_flags (p : Claim → Bool) (r : Result) :
    (s.withRetired p r).flags = s.flags := by unfold State.withRetired; rfl
@[simp] theorem State.withRetired_enables (p : Claim → Bool) (r : Result) :
    (s.withRetired p r).enables = s.enables := by unfold State.withRetired; rfl
@[simp] theorem State.withRetired_attn (p : Claim → Bool) (r : Result) :
    (s.withRetired p r).attn = s.attn := by unfold State.withRetired; rfl
@[simp] theorem State.withRetired_pending (p : Claim → Bool) (r : Result) :
    (s.withRetired p r).pending = s.pending := by unfold State.withRetired; rfl
@[simp] theorem State.withRetired_hold (p : Claim → Bool) (r : Result) (j : HoldNo) :
    (s.withRetired p r).hold j = s.hold j := by
  simp only [State.hold, State.withRetired_holds]

end Sys2Proof.Machine
end

