-- ==== Sys2Proof/Laws/Ring.lean ====
section
/-! SUPPORT. Ring arithmetic on positions 0..65535, each function once as a case distinction that omega can use. -/

namespace Sys2Proof.Machine

theorem forward_lt (a b : Nat) : forward a b < 65536 :=
  Nat.mod_lt _ (by decide)

theorem ringAdd_lt (a d : Nat) : ringAdd a d < 65536 :=
  Nat.mod_lt _ (by decide)

theorem ringSub_lt (a d : Nat) : ringSub a d < 65536 :=
  Nat.mod_lt _ (by decide)

/-- The forward distance between two positions (R1). -/
theorem forward_eq {a b : Nat} (ha : a < 65536) (hb : b < 65536) :
    forward a b = if a ≤ b then b - a else b + 65536 - a := by
  unfold forward
  split_ifs <;> omega

/-- A position plus at most one ring (R1). -/
theorem ringAdd_eq {a d : Nat} (ha : a < 65536) (hd : d < 65536) :
    ringAdd a d = if a + d < 65536 then a + d else a + d - 65536 := by
  unfold ringAdd
  split_ifs <;> omega

/-- A position minus at most one ring (R1). -/
theorem ringSub_eq {a d : Nat} (ha : a < 65536) (hd : d < 65536) :
    ringSub a d = if d ≤ a then a - d else a + 65536 - d := by
  unfold ringSub
  split_ifs <;> omega

/-- Arcs that do not overlap lie one after the other on the ring (R2). -/
theorem Arc.overlaps_eq_false (a b : Arc) :
    a.overlaps b = false ↔ a.length ≤ forward a.start b.start ∧ b.length ≤ forward b.start a.start := by
  simp [Arc.overlaps]

/-- Containment of arcs as an inequality (R3). -/
theorem Arc.within_iff (f a : Arc) : f.within a = true ↔ forward a.start f.start + f.length ≤ a.length := by
  simp [Arc.within]

end Sys2Proof.Machine
end

