-- ==== Sys2Proof/WellFormed.lean ====
section
/-! DEFINITION. Which events can arrive at all: checks on the frames and on the order of a tick's expiries.
`exec` does not need them; they say what a sender may send. -/

namespace Sys2Proof

/-- The lengths a data field can have: up to 8 bytes in the classic format; the flexible-data-rate format adds
12, 16, 20, 24, 32, 48 and 64 (PRESUMED, from the link standard the manual names in 0.6; assumption log 14). -/
def FrameFormat.allowsLength (f : FrameFormat) (n : Nat) : Bool :=
  match f with
  | .classic => n ≤ 8
  | .fd => n ≤ 8 || [12, 16, 20, 24, 32, 48, 64].contains n
  | .fdSwitch => n ≤ 8 || [12, 16, 20, 24, 32, 48, 64].contains n

/-- The identifier fits its width (R152). -/
def Frame.identFits (f : Frame) : Bool :=
  if f.extended then f.ident < 2 ^ 29 else f.ident < 2 ^ 11

/-- A remote request frame has the classic format and carries no data (PRESUMED, from the link standard; log 14). -/
def Frame.remoteFits (f : Frame) : Bool :=
  !f.remote || (f.format == .classic && f.data.isEmpty)

/-- A frame that a node can send on the link. -/
def Frame.wellFormed (f : Frame) : Bool :=
  f.identFits && f.format.allowsLength f.data.length && f.remoteFits

/-- An event that a sender may send. -/
def Instr.wellFormed (i : Instr) : Bool :=
  match i with
  | .tick order => decide order.Nodup
  | .mpFrameArrival f => f.wellFormed
  | .cpCommandArrival f => f.wellFormed
  | .powerOnReset _ _ | .resetnRisingEdge _ _ | .stopnAssertion | .stopnRelease | .leaseExpiry _
  | .mpReceiveError | .busOffRecovery | .disabledEntryDiscard | .claim | .cancel | .report | .release | .visit
  | .noticeStart | .noticeCompletion | .noticeFailure _ | .cpReceiveError | .cpBusOffRecovery | .replyStart
  | .replyCompletion | .replyFailure _ | .unknownCommand | .readStatus | .setMask | .readFault | .clearFault
  | .setMode | .halt | .resume | .softReset | .writeTier | .readTier | .setRest | .adopt | .writeGlobal
  | .readGlobal | .writeCeiling | .setPool | .placeHold | .liftHold | .cancelClaim | .clearTier | .setCursor
  | .readNext => true

end Sys2Proof
end

