-- ==== Sys2Proof/Tests/Slice0.lean ====
section
/-! SUPPORT. The model's own tests: ill-formed events refused, worked examples of the manual, single events, and for each
statement with hypotheses a state and operands that meet them. -/

namespace Sys2Proof.Tests

open Sys2Proof Sys2Proof.Machine

set_option Elab.async false

/-! ### WellFormed refuses what no sender can send -/

theorem test_tick_order_repeats_refused : Instr.wellFormed (.tick [3, 3]) = false := by decide

theorem test_ident_of_12_bits_refused : Instr.wellFormed (.mpFrameArrival ⟨.fd, false, false, 2048, []⟩) = false := by
  decide

theorem test_ident_of_30_bits_refused :
    Instr.wellFormed (.cpCommandArrival ⟨.fd, true, false, 2 ^ 29, []⟩) = false := by decide

theorem test_classic_nine_bytes_refused :
    Instr.wellFormed (.mpFrameArrival ⟨.classic, false, false, 0x080, List.replicate 9 0⟩) = false := by decide

theorem test_fd_nine_bytes_refused :
    Instr.wellFormed (.cpCommandArrival ⟨.fdSwitch, false, false, 0x010, List.replicate 9 0⟩) = false := by decide

theorem test_remote_with_data_refused :
    Instr.wellFormed (.mpFrameArrival ⟨.classic, false, true, 0x080, [0]⟩) = false := by decide

theorem test_command_frame_well_formed :
    Instr.wellFormed (.cpCommandArrival ⟨.fdSwitch, false, false, 0x010, List.replicate 16 0⟩) = true := by decide

/-! ### The manual's worked arithmetic (chapter 1) -/

/-- Tier 5 of 1.9.1. -/
def cfg5 : TierConfig :=
  { TierConfig.powerOn with
    enabled := true, halfWidth := 2400, wing := 1200, fold := 120, slewDemand := 40, rakeDemand := 60, origin := 200000 }

/-- The globals of 1.9.1. -/
def globals1 : Globals := { Globals.powerOn with margin := 300 }

/-- R1's examples. -/
theorem test_forward_and_differences :
    forward 60053 5700 = 11183 ∧ signedDiff 16000 15990 = -10 ∧ absDiff 16000 15990 = 10 ∧ signedDiff 65500 100 = 136 := by
  decide

/-- R2's and R3's examples. -/
theorem test_overlap_and_within :
    (⟨1000, 500⟩ : Arc).overlaps ⟨1500, 200⟩ = false ∧ (⟨60053, 8966⟩ : Arc).overlaps ⟨2000, 100⟩ = true ∧
      (⟨8827, 6346⟩ : Arc).within ⟨6627, 12746⟩ = true ∧ (⟨6600, 100⟩ : Arc).within ⟨6627, 12746⟩ = false := by decide

/-- R4's examples. -/
theorem test_sector_runs :
    (⟨6627, 12746⟩ : Arc).firstSector = 25 ∧ (⟨6627, 12746⟩ : Arc).sectorCount = 51 ∧
      (⟨60053, 8966⟩ : Arc).sectorCount = 36 ∧ (⟨100, 65535⟩ : Arc).sectorCount = 256 := by decide

/-- R8's, R10's and R11's examples. -/
theorem test_conversion_and_footprint :
    ringPosition cfg5 392000 = 12000 ∧ wingWidening cfg5 120 = 0 ∧ wingWidening cfg5 250 = 473 ∧
      wingWidening cfg5 450 = 1200 ∧ footprint cfg5 globals1 ⟨12000, 250⟩ = ⟨8827, 6346⟩ := by decide

/-- R12's to R14's example, and R17's. -/
theorem test_geometry_and_trim :
    admissionGeometry cfg5 globals1 (.both .cw 16000 300) ⟨10000, 100⟩ = ⟨6000, 100, 300, ⟨6627, 12746⟩⟩ ∧
      trimmedArc cfg5 globals1 (.both .cw 16000 300) ⟨⟨6627, 12746⟩, 100, 300, 40, 60⟩ 12000 = ⟨8499, 10874⟩ := by decide

/-- R19's examples. -/
theorem test_hazard_arc :
    hazardArc 1024 ⟨8499, 10874⟩ = .arc ⟨7475, 12922⟩ ∧ hazardArc 2100 ⟨0, 61433⟩ = .wholeRing := by decide

/-! ### States of tier 5 for the tests below -/

/-- A full command frame. -/
def command (code : Nat) (args : List Byte) : CpEntry := ⟨padTo 16 (9 :: BitVec.ofNat 8 code :: args), 16⟩

/-- The part with one command waiting. -/
def asked (b : State) (code : Nat) (args : List Byte) : State := { b with cpFifo := [command code args] }

/-- The part with one drive's frame waiting. -/
def taken (b : State) (e : MpEntry) : State := { b with mpFifo := [e] }

/-- What one event leaves. -/
def after (i : Instr) (s : State) (p : State → Bool) : Bool :=
  match exec i s with
  | .next u => p u
  | .fault _ => false
  | .refused _ => false

/-- The status and the first result bytes of the newest reply. -/
def answered (u : State) (st : Status) (results : List Byte) : Bool :=
  u.replies.getLast? == some ⟨9, st, 0, padTo 14 results⟩

/-- Tier 5 at rest at (10000, 100), last sequence 6 (6.8). -/
def tier5 : Tier :=
  { Tier.powerOn with
    cfg := cfg5, rest := ⟨10000, 100⟩, standing := some ⟨7300, 5400⟩, tracked := ⟨10000, 100⟩, havePose := true,
    lastSeq := 6, haveSeq := true }

/-- In RUN with tier 5 alone enabled, every sector at 450, both pools at 100. -/
def hall : State :=
  { State.reset with
    mode := .run
    tiers := (Vector.replicate 24 Tier.powerOn).set 5 tier5
    globals := globals1
    ceilings := Vector.replicate 256 450
    hyd := ⟨100, 0⟩
    slew := ⟨100, 0⟩ }

/-- The same in CONFIG. -/
def setup : State := { hall with mode := .config }

/-- Claim 5.0 of 6.8 and 1.9.1: BOTH, CW to 16000, target rake 300. -/
def leg (p : Phase) : Claim := ⟨⟨5, 0⟩, .both .cw 16000 300, 2, ⟨10000, 100⟩, p⟩

/-- Its fields from grant. -/
def legGrant : Grant := ⟨⟨6627, 12746⟩, 100, 300, 40, 60⟩

/-- Tier 5 with this record 0, a leg queue of its slot, and this lease. -/
def withLeg (b : State) (c : Claim) (lease : Nat) : State :=
  { b with
    records := (Vector.replicate 64 none).set 0 (some c)
    tiers := (Vector.replicate 24 Tier.powerOn).set 5
      { tier5 with legs := [0], lease := lease, leaseRunning := decide (0 < lease) }
    mailboxes := b.mailboxes.set 20 ⟨c.state, c.result, false⟩ }

/-- Claim 5.0 WAITING, and a scan about to visit it. -/
def waiting : State :=
  { withLeg hall (leg .waiting) 0 with
    waitList := [0]
    scan := { Scan.idle with running := true, marks := (Vector.replicate 64 false).set 0 true } }

/-- Claim 5.0 GRANTED. -/
def moving : State :=
  { withLeg hall (leg (.granted legGrant)) 20 with
    permit := (Vector.replicate 24 false).set 5 true, hyd := ⟨100, 60⟩, slew := ⟨100, 40⟩ }

/-- Claim 5.0 STOPPING. -/
def stopping : State :=
  { withLeg hall (leg (.stopping legGrant)) 20 with hyd := ⟨100, 60⟩, slew := ⟨100, 40⟩ }

/-- Claim 5.0 FROZEN, tier 5 FAULTED. -/
def frozen : State :=
  { withLeg hall (leg (.frozen legGrant)) 0 with
    tiers := (Vector.replicate 24 Tier.powerOn).set 5 { tier5 with legs := [0], fault := some .lease }
    hyd := ⟨100, 60⟩, slew := ⟨100, 40⟩ }

/-- The data of a REPORT. -/
def reportData (encoder rake flags : Nat) : List Byte := u32 encoder ++ u16 rake ++ u8 flags

/-- The data of a RELEASE. -/
def releaseData (encoder rake : Nat) : List Byte := u32 encoder ++ u16 rake

/-- The data of the CLAIM of 1.9.1 with a declared priority. -/
def claimData (priority : Nat) : List Byte := u8 3 ++ u8 0 ++ u16 16000 ++ u16 300 ++ u8 priority

/-! ### Lines and time -/

theorem test_power_on_reset_holds : after (.powerOnReset .resetnLow true) moving (fun u =>
    u.resetHeld && u.permitLine 5 == false && u.flags.stopline && !u.attn) = true := by decide +kernel

theorem test_rising_edge_starts_in_config : after (.resetnRisingEdge ⟨⟨true, false⟩, ⟨false, true⟩⟩ true) moving (fun u =>
    u.mode == .config && u.attn && u.mpPort.straps == ⟨true, false⟩ && u.cpPort.straps == ⟨false, true⟩) = true := by
  decide +kernel

/-- R148 and R147: the mode recorded is that before the assertion. -/
theorem test_stopn_assertion_in_run : after .stopnAssertion moving (fun u =>
    u.mode == .halt && u.record 0 == some (leg (.stopping legGrant)) && !u.permitLine 5 &&
      u.capture == some ⟨.hallStop, none, none, none, .run⟩) = true := by decide +kernel

theorem test_stopn_release_keeps_halt : after .stopnRelease { hall with mode := .halt, stopnLow := true } (fun u =>
    u.mode == .halt && !u.flags.stopline && u.flags.halt) = true := by decide +kernel

/-- 6.8.1, silence: the 20th tick after a reload expires the lease. -/
theorem test_tick_expires_at_zero : after (.tick []) (withLeg hall (leg (.granted legGrant)) 1) (fun u =>
    u.record 0 == some (leg (.frozen legGrant)) && (u.tier 5).fault == some .lease && !(u.tier 5).leaseRunning &&
      u.capture == some ⟨.tier .lease, some 5, some 0, some ⟨10000, 100⟩, .run⟩) = true := by decide +kernel

theorem test_lease_expiry_not_due_at_two : after (.leaseExpiry 5) (withLeg hall (leg (.granted legGrant)) 2) (fun u =>
    (u.tier 5).lease == 2 && u.capture == none) = true := by decide +kernel

/-! ### The machinery port -/

theorem test_mp_frame_joins_fifo : after (.mpFrameArrival ⟨.fd, false, false, 0x214, claimData 1 ++ [0xFF]⟩) hall (fun u =>
    u.mpFifo == [.claim ⟨5, 0⟩ (claimData 1)]) = true := by decide +kernel

theorem test_mp_frame_too_short : after (.mpFrameArrival ⟨.classic, false, false, 0x085, [0, 0]⟩) hall (fun u =>
    u.mpFifo == [] && u.capture == some ⟨.protocol, some 5, none, none, .run⟩) = true := by decide +kernel

theorem test_mp_receive_error_makes_passive :
    after .mpReceiveError { hall with mpPort := { hall.mpPort with rxErrors := 127 } } (fun u =>
      u.mpPort.rxErrors == 128 && u.mpPort.link == .passive) = true := by decide +kernel

theorem test_bus_off_recovery :
    after .busOffRecovery { hall with mpPort := ⟨256, 7, .busOff, ⟨true, true⟩⟩ } (fun u =>
      u.mpPort == ⟨0, 0, .onLine, ⟨true, true⟩⟩) = true := by decide +kernel

theorem test_disabled_entry_discarded : after .disabledEntryDiscard (taken hall (.cancel ⟨4, 3⟩)) (fun u =>
    u.mpFifo == [] && u.capture == none) = true := by decide +kernel

theorem test_notice_start_lowest_ident :
    after .noticeStart { hall with mailboxes := (hall.mailboxes.set 95 ⟨.free, .reset, true⟩).set 21 ⟨.waiting, .queued, true⟩ }
      (fun u => u.mpTx.map NoticeTx.frame == some ⟨.fdSwitch, false, false, 0x115, [1, 1, 0, 0, 0, 0, 0, 0]⟩ &&
        !(u.mailbox ⟨5, 1⟩).pending && (u.mailbox ⟨23, 3⟩).pending) = true := by decide +kernel

theorem test_notice_completion_lowers_count :
    after .noticeCompletion { hall with mpTx := some ⟨⟨5, 0⟩, .free, .short⟩, mpPort := ⟨3, 0, .onLine, ⟨false, false⟩⟩ }
      (fun u => u.mpTx == none && u.mpPort.txErrors == 2) = true := by decide +kernel

theorem test_notice_failure_enters_bus_off :
    after (.noticeFailure (.error .bit))
      { hall with mpTx := some ⟨⟨5, 0⟩, .free, .short⟩, mpPort := ⟨248, 0, .passive, ⟨false, false⟩⟩ }
      (fun u => u.mpTx == none && (u.mailbox ⟨5, 0⟩).pending && u.mpPort.link == .busOff) = true := by decide +kernel

/-! ### Claims -/

/-- 3.10, event 2: best priority 3 over a declared 1. -/
theorem test_claim_accepted :
    after .claim (taken { hall with tiers := hall.tiers.set 5 { tier5 with cfg := { cfg5 with bestPriority := 3 } } }
      (.claim ⟨5, 0⟩ (claimData 1))) (fun u =>
        u.record 0 == some ⟨⟨5, 0⟩, .both .cw 16000 300, 3, ⟨10000, 100⟩, .waiting⟩ && u.waitList == [0] &&
          u.mailbox ⟨5, 0⟩ == ⟨.waiting, .queued, true⟩ && u.scan.running && u.marked 0) = true := by decide +kernel

/-- 3.10, event 5: RAKE to 330 under a ceiling of 320. -/
theorem test_claim_refused_by_ceiling :
    after .claim (taken { moving with ceilings := moving.ceilings.set 61 320 }
      (.claim ⟨5, 1⟩ (u8 2 ++ u8 0 ++ u16 0 ++ u16 330 ++ u8 0))) (fun u =>
        u.record 1 == none && u.mailbox ⟨5, 1⟩ == ⟨.free, .refusedCeiling, true⟩) = true := by decide +kernel

theorem test_cancel_stops_granted : after .cancel (taken moving (.cancel ⟨5, 0⟩)) (fun u =>
    u.record 0 == some (leg (.stopping legGrant)) && !u.permitLine 5 &&
      u.mailbox ⟨5, 0⟩ == ⟨.stopping, .granted, true⟩) = true := by decide +kernel

/-- 4.7's and 6.8's grant of claim 5.0. -/
theorem test_visit_grants : after .visit waiting (fun u =>
    u.record 0 == some (leg (.granted legGrant)) && u.permitLine 5 && u.hyd.committed == 60 && u.slew.committed == 40 &&
      (u.tier 5).lease == 20 && !u.scan.running && u.waitList == []) = true := by decide +kernel

theorem test_visit_pool_test_fails : after .visit { waiting with hyd := ⟨59, 0⟩ } (fun u =>
    u.record 0 == some (leg .waiting) && u.waitList == [0] && u.hyd.committed == 0 && !u.scan.running) = true := by
  decide +kernel

/-! ### Supervision -/

/-- 6.8, a contained report at 12000 after a gap in the sequence: arc [8499, length 10874). -/
theorem test_report_trims_and_notes_gap : after .report (taken moving (.report 5 (reportData 392000 250 (9 + 16)))) (fun u =>
    u.record 0 == some (leg (.granted { legGrant with arc := ⟨8499, 10874⟩ })) && (u.tier 5).lastSeq == 9 &&
      u.capture == some ⟨.seqGap, some 5, none, some ⟨12000, 250⟩, .run⟩) = true := by decide +kernel

/-- R107 with R18's distances: 65 counts from rest is beyond Lc = 64. -/
theorem test_report_creep : after .report (taken hall (.report 5 (reportData 361040 100 7))) (fun u =>
    (u.tier 5).fault == some .creep && u.capture == some ⟨.tier .creep, some 5, none, some ⟨10065, 100⟩, .run⟩) = true := by
  decide +kernel

/-- 6.8, event 13: arrival at (15990, 298), standing arc [12642, length 6696). -/
theorem test_release_arrives : after .release (taken moving (.release ⟨5, 0⟩ (releaseData 455840 298))) (fun u =>
    u.record 0 == none && u.mailbox ⟨5, 0⟩ == ⟨.free, .arrived, true⟩ && (u.tier 5).standing == some ⟨12642, 6696⟩ &&
      u.hyd.committed == 0 && !(u.tier 5).leaseRunning) = true := by decide +kernel

/-- 6.8.1: short of the target at (15900, 298). -/
theorem test_release_short : after .release (taken moving (.release ⟨5, 0⟩ (releaseData 454400 298))) (fun u =>
    u.mailbox ⟨5, 0⟩ == ⟨.free, .short, true⟩ && (u.tier 5).standing == some ⟨12552, 6696⟩ &&
      u.capture == some ⟨.shortArrival, some 5, some 0, some ⟨15900, 298⟩, .run⟩) = true := by decide +kernel

/-! ### The console port -/

theorem test_cp_command_arrival : after (.cpCommandArrival ⟨.fdSwitch, false, false, 0x010, List.replicate 20 7⟩) hall (fun u =>
    u.cpFifo == [⟨List.replicate 16 7, 20⟩]) = true := by decide +kernel

theorem test_cp_receive_error_saturates :
    after .cpReceiveError { hall with cpPort := ⟨0, 255, .passive, ⟨false, false⟩⟩ } (fun u =>
      u.cpPort.rxErrors == 255) = true := by decide +kernel

theorem test_cp_bus_off_recovery :
    after .cpBusOffRecovery { hall with cpPort := ⟨256, 0, .busOff, ⟨false, false⟩⟩ } (fun u =>
      u.cpPort.link == .onLine && u.cpPort.txErrors == 0) = true := by decide +kernel

theorem test_reply_start_sends_oldest : after .replyStart { hall with replies := [⟨1, .ok, 0, []⟩, ⟨2, .ok, 0, []⟩] } (fun u =>
    (u.cpTx.map fun r => r.tag) == some 1 && u.replies.length == 2) = true := by decide +kernel

theorem test_reply_completion_removes_it :
    after .replyCompletion { hall with replies := [⟨1, .ok, 0, []⟩, ⟨2, .ok, 0, []⟩], cpTx := some ⟨1, .ok, 0, []⟩ } (fun u =>
      u.cpTx == none && (u.replies.map fun r => r.tag) == [2]) = true := by decide +kernel

theorem test_reply_failure_keeps_it :
    after (.replyFailure .lostArbitration) { hall with replies := [⟨1, .ok, 0, []⟩], cpTx := some ⟨1, .ok, 0, []⟩ } (fun u =>
      u.cpTx == none && u.replies.length == 1 && u.cpPort.txErrors == 0) = true := by decide +kernel

/-! ### Console commands -/

theorem test_unknown_short_frame : after .unknownCommand { hall with cpFifo := [⟨[9, 1], 12⟩] } (fun u =>
    answered u .unknown []) = true := by decide +kernel

theorem test_read_status_in_halt : after .readStatus (asked { moving with mode := .halt } 0x01 []) (fun u =>
    answered u .ok [2, 100, 0, 60, 0, 100, 0, 40, 0, 0, 0, 0, 0, 127]) = true := by decide +kernel

theorem test_set_mask_lowers_attn :
    after .setMask (asked { hall with attn := true, flags := { AttentionBits.clear with halt := true } } 0x02 [0xF7]) (fun u =>
      !u.attn && answered u .ok [0x77, 8]) = true := by decide +kernel

theorem test_read_fault_bytes :
    after .readFault (asked { hall with capture := some ⟨.tier .lease, some 5, some 2, some ⟨10000, 100⟩, .run⟩, second := true }
      0x03 []) (fun u => answered u .ok [63, 1, 5, 2, 16, 39, 100, 0, 1] && u.second) = true := by decide +kernel

theorem test_clear_fault_empties :
    after .clearFault (asked { hall with capture := some ⟨.seqGap, some 5, none, none, .run⟩ } 0x04 []) (fun u =>
      answered u .ok [9, 7, 5, 0, 0, 0, 0, 0, 1] && u.capture == none && !u.flags.fault) = true := by decide +kernel

theorem test_set_mode_refuses_unplaced :
    after .setMode (asked { setup with tiers := setup.tiers.set 5 { tier5 with standing := none } } 0x05 [1]) (fun u =>
      u.mode == .config && answered u .unplaced [0, 5]) = true := by decide +kernel

theorem test_halt_stops_granted : after .halt (asked moving 0x06 []) (fun u =>
    u.mode == .halt && u.record 0 == some (leg (.stopping legGrant)) && answered u .ok [2]) = true := by decide +kernel

theorem test_resume_refused_by_stopline :
    after .resume (asked { hall with mode := .halt, stopnLow := true } 0x07 []) (fun u =>
      u.mode == .halt && answered u .stopline []) = true := by decide +kernel

theorem test_soft_reset_unplaces_active : after .softReset (asked moving 0x08 []) (fun u =>
    u.record 0 == none && u.mailbox ⟨5, 0⟩ == ⟨.free, .reset, true⟩ && (u.tier 5).standing == none &&
      (u.tier 5).rest == ⟨10000, 100⟩ && u.hyd == ⟨100, 0⟩ && answered u .ok [0]) = true := by decide +kernel

/-- 2.1's example: 9000 to H saturates to 8191. -/
theorem test_write_tier_clamps : after .writeTier (asked setup 0x10 ([5, 1] ++ u32 9000)) (fun u =>
    (u.tier 5).cfg.halfWidth == 8191 && answered u .clamped [5, 1, 0xFF, 0x1F, 0, 0]) = true := by decide +kernel

theorem test_read_tier_standing_arc : after .readTier (asked hall 0x11 [5, 0x11]) (fun u =>
    answered u .ok ([5, 0x11, 1] ++ u16 7300 ++ u16 5400)) = true := by decide +kernel

/-- R36's example with tier 6 of 1.9.1: rake 600 is taken as 450. -/
theorem test_set_rest_clamps :
    after .setRest (asked { setup with tiers := setup.tiers.set 6 { Tier.powerOn with cfg := { TierConfig.powerOn with halfWidth := 2400 } } }
      0x12 ([6] ++ u32 23000 ++ u32 600)) (fun u =>
        (u.tier 6).rest == ⟨23000, 450⟩ && (u.tier 6).standing == some ⟨20300, 5400⟩ &&
          answered u .clamped ([6] ++ u16 23000 ++ u16 450 ++ u16 20300 ++ u16 5400)) = true := by decide +kernel

theorem test_adopt_without_pose : after .adopt (asked setup 0x13 [4]) (fun u =>
    answered u .noPose [] && (u.tier 4).standing == none) = true := by decide +kernel

/-- R24: a G below Lc lowers Lc with it. -/
theorem test_write_global_lowers_creep_limit : after .writeGlobal (asked setup 0x14 ([0] ++ u32 10)) (fun u =>
    u.globals.margin == 10 && u.globals.creepLimit == 10 && answered u .ok [0, 10, 0, 0, 0]) = true := by decide +kernel

theorem test_read_global : after .readGlobal (asked hall 0x15 [5]) (fun u =>
    answered u .ok [5, 0, 4, 0, 0]) = true := by decide +kernel

/-- R6's example: sectors 60 to 63 take 320, 320, 450, 320. -/
theorem test_write_ceiling_clamps :
    after .writeCeiling (asked { setup with ceilings := Vector.replicate 256 0 } 0x16
      ([60, 4] ++ u16 320 ++ u16 320 ++ u16 500 ++ u16 320)) (fun u =>
        u.ceilings[59] == 0 && u.ceilings[60] == 320 && u.ceilings[62] == 450 && u.ceilings[63] == 320 && u.ceilings[64] == 0 &&
          answered u .clamped ([60, 4] ++ u16 320 ++ u16 320 ++ u16 450 ++ u16 320)) = true := by decide +kernel

theorem test_set_pool_raise_requests_scan :
    after .setPool (asked { withLeg hall (leg .waiting) 0 with waitList := [0] } 0x20 ([1] ++ u32 5000)) (fun u =>
      u.slew.capacity == 4095 && u.scan.running && answered u .clamped [1, 0xFF, 0x0F, 0, 0]) = true := by decide +kernel

theorem test_place_hold_stops_overlap : after .placeHold (asked moving 0x21 (u32 19372 ++ u32 1)) (fun u =>
    u.hold 0 == some ⟨19372, 1⟩ && u.record 0 == some (leg (.stopping legGrant))) = true := by decide +kernel

theorem test_lift_hold_not_active : after .liftHold (asked hall 0x22 [7]) (fun u => answered u .notActive []) = true := by
  decide +kernel

theorem test_cancel_claim_of_stopping : after .cancelClaim (asked stopping 0x23 [5, 0]) (fun u =>
    answered u .ok [5, 0, 3] && !(u.mailbox ⟨5, 0⟩).pending) = true := by decide +kernel

theorem test_clear_tier_places_at_footprint : after .clearTier (asked frozen 0x24 [5]) (fun u =>
    (u.tier 5).fault == none && (u.tier 5).standing == some ⟨7300, 5400⟩ && u.mailbox ⟨5, 0⟩ == ⟨.free, .faulted, true⟩ &&
      u.hyd.committed == 0 && answered u .ok ([5, 0] ++ u16 7300 ++ u16 5400)) = true := by decide +kernel

theorem test_set_cursor_past_end : after .setCursor (asked hall 0x30 ([3] ++ u16 8)) (fun u =>
    answered u .range [] && u.cursor == ⟨.tiers, 0⟩) = true := by decide +kernel

/-- R172: at sector 252 four entries are left. -/
theorem test_read_next_last_ceilings :
    after .readNext (asked { hall with cursor := ⟨.ceiling, 252⟩ } 0x31 []) (fun u =>
      u.cursor == ⟨.ceiling, 256⟩ && answered u .ok ([252, 4] ++ u16 450 ++ u16 450 ++ u16 450 ++ u16 450)) = true := by
  decide +kernel

theorem test_step_takes_the_front : (match step { hall with pending := [.mpReceiveError, .visit] } with
    | .next u => u.pending == [.visit] && u.mpPort.rxErrors == 1
    | .fault _ => false
    | .refused _ => false) = true := by decide +kernel

/-! ### States and operands that meet the statements' hypotheses

One theorem for each statement that has hypotheses, with one part for each clause; numbers at a boundary of their range. -/

theorem asked_due (b : State) (code : Nat) (args : List Byte)
    (h : (!b.resetHeld && decide (b.replies.length < 16) && (command code args).code == code) = true) :
    (asked b code args).CommandDue (command code args) [] code := by
  simp only [Bool.and_eq_true, Bool.not_eq_true', decide_eq_true_eq, beq_iff_eq] at h
  exact ⟨h.1.1, rfl, h.1.2, Nat.le_refl 16, h.2⟩

theorem taken_due (b : State) (e : MpEntry) (h : (!b.resetHeld && (b.tier e.tier).cfg.enabled) = true) :
    (taken b e).EntryDue e [] := by
  simp only [Bool.and_eq_true, Bool.not_eq_true'] at h
  exact ⟨h.1, rfl, h.2⟩

/-- With claim 5.0 in record 0 no other record holds a claim. -/
theorem leg_only {s : State} {c d : Claim} {i : RecNo} (h : s.records = (Vector.replicate 64 none).set 0 (some c))
    (hd : s.Holds i d) : i = 0 ∧ d = c := by
  unfold State.Holds State.record at hd
  rw [h] at hd
  by_cases hi : i = 0
  · subst hi
    exact ⟨rfl, (Option.some.inj hd).symm⟩
  · have off : (0 : Nat) ≠ i.val := fun e => hi (Fin.ext e.symm)
    simp [off] at hd

theorem test_witness_NothingActsWhileResetnIsLow :
    ({ hall with resetHeld := true } : State).resetHeld = true ∧ (∀ cause low, Instr.visit ≠ .powerOnReset cause low) ∧
      ∀ straps low, Instr.visit ≠ .resetnRisingEdge straps low :=
  ⟨rfl, fun _ _ => nofun, fun _ _ => nofun⟩

theorem test_witness_StopnEdgesByMode :
    (setup.resetHeld = false ∧ setup.mode = .config) ∧ (moving.resetHeld = false ∧ moving.mode = .run) ∧
      ({ hall with mode := .halt } : State).mode = .halt := by decide

/-- One countdown at 2, and one at 1. -/
theorem test_witness_TickLowersRunningCountdowns :
    (let s := withLeg hall (leg (.granted legGrant)) 2
     s.resetHeld = false ∧ ∀ t, (s.tier t).leaseRunning = true → 2 ≤ (s.tier t).lease) ∧
      let s := withLeg hall (leg (.granted legGrant)) 1
      s.resetHeld = false ∧ (s.tier 5).leaseRunning = true ∧ (s.tier 5).lease = 1 ∧
        ∀ u, u ≠ 5 → (s.tier u).leaseRunning = true → 2 ≤ (s.tier u).lease := by decide +kernel

/-- Tier 5's claim 5.0 active in record 0 at its last tick, claim 5.1 WAITING behind it in record 1, and claim 6.0 of an
enabled, placed tier 6 GRANTED in record 2. -/
def crowded (p : Phase) : State :=
  { withLeg hall (leg p) 1 with
    records := (((Vector.replicate 64 none).set 0 (some (leg p))).set 1
      (some { leg .waiting with handle := ⟨5, 1⟩ })).set 2 (some { leg (.granted legGrant) with handle := ⟨6, 0⟩ })
    tiers := ((Vector.replicate 24 Tier.powerOn).set 5 { tier5 with legs := [0, 1], lease := 1, leaseRunning := true }).set 6
      { tier5 with legs := [0], lease := 20, leaseRunning := true }
    waitList := [1] }

theorem crowded_record (p : Phase) (i : RecNo) : (crowded p).record i =
    if i = 0 then some (leg p) else if i = 1 then some { leg .waiting with handle := ⟨5, 1⟩ }
    else if i = 2 then some { leg (.granted legGrant) with handle := ⟨6, 0⟩ } else none := by
  unfold State.record crowded withLeg
  by_cases h0 : i = 0
  · subst h0; rfl
  by_cases h1 : i = 1
  · subst h1; rfl
  by_cases h2 : i = 2
  · subst h2; rfl
  have n0 : (0 : Nat) ≠ i.val := fun e => h0 (Fin.ext e.symm)
  have n1 : (1 : Nat) ≠ i.val := fun e => h1 (Fin.ext e.symm)
  have n2 : (2 : Nat) ≠ i.val := fun e => h2 (Fin.ext e.symm)
  simp [h0, h1, h2, n0, n1, n2]

theorem crowded_unique (p : Phase) : (crowded p).HandlesUnique := by
  intro i j c d hc hd e
  have hc := (crowded_record p i).symm.trans hc
  have hd := (crowded_record p j).symm.trans hd
  split_ifs at hc with h1 h2 h3 <;> split_ifs at hd with k1 k2 k3 <;>
    first
    | exact h1.trans k1.symm
    | exact h2.trans k2.symm
    | exact h3.trans k3.symm
    | (rw [← Option.some.inj hc, ← Option.some.inj hd] at e; simp [leg] at e)

theorem crowded_tier5 (p : Phase) {j : RecNo} {d : Claim} (hd : (crowded p).Holds j d) (ht : d.handle.tier = 5)
    (hj : j ≠ 0) : d.phase = .waiting := by
  have e := (crowded_record p j).symm.trans hd
  split_ifs at e with h1 h2 h3
  · exact absurd h1 hj
  · rw [← Option.some.inj e]
    rfl
  · rw [← Option.some.inj e] at ht
    simp at ht

/-- One claim to freeze, one to retire, one that overlaps the hazard arc. -/
theorem test_witness_LeaseExpiryFreezesRetiresStops :
    let c := leg (.granted legGrant)
    let s := crowded (.granted legGrant)
    (s.resetHeld = false ∧ (s.tier 5).leaseRunning = true ∧ (s.tier 5).lease = 1 ∧ (s.tier 5).fault = none ∧
      (s.tier 5).cfg.enabled = true ∧ (s.tier 5).placed = true ∧ c.handle.tier = 5 ∧
      (s.tier 5).legs.head? = some c.handle.slot) ∧
      s.HandlesUnique ∧ s.Holds 0 c ∧ (c.phase = .granted legGrant ∨ c.phase = .stopping legGrant) ∧
      ∀ j d, s.Holds j d → d.handle.tier = 5 → j ≠ 0 → d.phase = .waiting :=
  ⟨by decide +kernel, crowded_unique _, by unfold State.Holds; decide +kernel, .inl rfl, fun _ _ => crowded_tier5 _⟩

/-- A tier with an active claim, GRANTED and STOPPING, and one without, its head WAITING; the hazard arc of each reaches
the GRANTED claim of tier 6. -/
theorem test_witness_TierHardFaultFreezesRetiresStops :
    (let s := crowded (.granted legGrant)
     s.HandlesUnique ∧ (s.tier 5).fault = none ∧ (s.tier 5).cfg.enabled = true ∧ (s.tier 5).standing = some ⟨7300, 5400⟩ ∧
       s.activeClaim 5 = some (0, leg (.granted legGrant))) ∧
      (let s := crowded (.stopping legGrant)
       s.HandlesUnique ∧ s.activeClaim 5 = some (0, leg (.stopping legGrant))) ∧
      (let s := crowded .waiting
       s.HandlesUnique ∧ (s.tier 5).fault = none ∧ (s.tier 5).cfg.enabled = true ∧
         (s.tier 5).standing = some ⟨7300, 5400⟩ ∧ s.activeClaim 5 = none) ∧
      (hazardArc hall.globals.stopMargin ⟨7300, 5400⟩).overlaps legGrant.arc = true :=
  ⟨⟨crowded_unique _, by decide +kernel⟩, ⟨crowded_unique _, by decide +kernel⟩, ⟨crowded_unique _, by decide +kernel⟩,
    by decide +kernel⟩

/-- R127 to R129: a tier that faults while idle has its WAITING claims retired and the neighbour in its standing arc's
hazard arc stopped; its rest pose is its projected pose. -/
theorem test_hard_fault_while_idle :
    (let u := (crowded .waiting).hardFault 5 .creep none ⟨10065, 100⟩
     u.record 0 == none && u.record 1 == none && (u.tier 5).legs == [] && u.waitList == [] &&
       u.record 2 == some { leg (.stopping legGrant) with handle := ⟨6, 0⟩ } && u.projectedPose 5 == ⟨10000, 100⟩) = true := by
  decide +kernel

theorem test_witness_FaultCaptureLatchesFirstHardFault :
    let soft : FaultRecord := ⟨.seqGap, some 5, none, none, .run⟩
    let hard : FaultRecord := ⟨.hallStop, none, none, none, .run⟩
    hall.capture = none ∧ soft.kind.isHard = false ∧ hard.kind.isHard = true ∧
      ({ hall with capture := some soft } : State).capture = some soft ∧
      ({ hall with capture := some hard } : State).capture = some hard ∧ (frozen.tier 5).fault = some .lease := by decide +kernel

/-- The four classes at the longest identifier of tier 5, each at its needed length and one byte below it; a FIFO with
room for one, and a full one. -/
theorem test_witness_MpFrameOfEnabledTier :
    let h : Handle := ⟨5, 3⟩
    let full : State := { hall with mpFifo := List.replicate 16 (.cancel h) }
    hall.resetHeld = false ∧ hall.mpPort.link ≠ .busOff ∧ (hall.tier h.tier).cfg.enabled = true ∧
      MpClass.report.ident h = 0x085 ∧ MpClass.claim.ident h = 0x217 ∧ MpClass.cancel.ident h = 0x297 ∧
      MpClass.release.ident h = 0x317 ∧ MpClass.report.neededLength ≤ (List.replicate 7 (0 : Byte)).length ∧
      MpClass.cancel.neededLength ≤ ([] : List Byte).length ∧
      (List.replicate 5 (0 : Byte)).length < MpClass.release.neededLength ∧
      ({ hall with mpFifo := List.replicate 15 (.cancel h) } : State).mpFifo.length < 16 ∧ full.mpFifo.length = 16 := by
  decide +kernel

theorem test_witness_MpFrameIgnoredWithoutRecord :
    (hall.resetHeld = false ∧ ({ hall with mpPort := ⟨256, 0, .busOff, ⟨false, false⟩⟩ } : State).mpPort.link = .busOff) ∧
      (hall.mpPort.link ≠ .busOff ∧ (⟨.fd, true, false, 0x085, []⟩ : Frame).extended = true) ∧
      (∀ (c : MpClass) h, (⟨.fd, false, false, 0x098, []⟩ : Frame).ident = c.ident h → (hall.tier h.tier).cfg.enabled = false) ∧
      (taken hall (.cancel ⟨4, 0⟩)).mpFifo = [.cancel ⟨4, 0⟩] ∧ (hall.tier 4).cfg.enabled = false := by
  refine ⟨by decide +kernel, by decide +kernel, ?_, rfl, by decide +kernel⟩
  intro c h e
  cases c <;> simp only [MpClass.ident] at e <;> omega

theorem test_witness_LinkErrorsAndRecoveries :
    hall.resetHeld = false ∧ hall.mpPort.link ≠ .busOff ∧ hall.cpPort.link ≠ .busOff ∧
      ({ hall with mpPort := ⟨256, 0, .busOff, ⟨false, false⟩⟩ } : State).mpPort.link = .busOff ∧
      ({ hall with cpPort := ⟨256, 0, .busOff, ⟨false, false⟩⟩ } : State).cpPort.link = .busOff := by decide

/-- The highest mailbox alone pending; a NOTICE in transmission in ON-LINE and in PASSIVE. -/
theorem test_witness_NoticeStartsCompletesOrFails :
    (let s : State := { hall with mailboxes := hall.mailboxes.set 95 ⟨.free, .reset, true⟩ }
     s.resetHeld = false ∧ s.mpPort.link ≠ .busOff ∧ s.mpTx = none ∧ s.mailboxes[(95 : Fin 96)].pending = true ∧
       ∀ k : Fin 96, k < 95 → s.mailboxes[k].pending = false) ∧
      let s : State := { hall with mpTx := some ⟨⟨5, 0⟩, .free, .short⟩ }
      s.mpTx = some ⟨⟨5, 0⟩, .free, .short⟩ ∧ s.mpPort.link = .onLine ∧
        ({ s with mpPort := ⟨128, 0, .passive, ⟨false, false⟩⟩ } : State).mpPort.link = .passive := by decide +kernel

/-- For the handle 5.0: an occupied handle; CONFIG; UNPLACED; FAULTED; each bad field at its first bad value; a distance of
32,768; a ceiling one below the envelope; a full table. -/
theorem test_witness_ClaimIgnoredOrRefused :
    let h : Handle := ⟨5, 0⟩
    let d := claimData 7
    let entry : MpEntry := .claim h d
    let other : Claim := { leg .waiting with handle := ⟨6, 0⟩ }
    let full : State := { hall with records := Vector.replicate 64 (some other) }
    ((taken moving entry).EntryDue entry [] ∧ (taken moving entry).Holds 0 (leg (.granted legGrant))) ∧
      ((taken setup entry).EntryDue entry [] ∧ (∀ i, (taken setup entry).record i = none) ∧ (taken setup entry).mode = .config) ∧
      (taken hall entry).EntryDue entry [] ∧
      ((∀ i, (taken hall entry).record i = none) ∧ (taken hall entry).mode ≠ .config ∧
      ({ hall with tiers := hall.tiers.set 5 { tier5 with standing := none } } : State).tierState 5 = .unplaced ∧
      ({ hall with tiers := hall.tiers.set 5 { tier5 with fault := some .creep } } : State).tierState 5 = .faulted ∧
      hall.tierState 5 = .idle ∧ byteAt (u8 4 ++ d.drop 1) 0 ∉ [1, 2, 3] ∧ 1 < byteAt ([1, 2] ++ d.drop 2) 1 ∧
      450 < word16At ([2, 0, 0, 0] ++ u16 451 ++ [0]) 4 ∧ 7 < byteAt (claimData 8) 6 ∧
      claimMotion d = some (.both .cw 16000 300) ∧
      (admissionGeometry cfg5 globals1 (.slew .cw 42768) (hall.projectedPose 5)).dist = 32768 ∧
      ceilingOver (Vector.replicate 256 299) ⟨6627, 12746⟩ < 300 ∧ (∀ i, full.record i ≠ none)) ∧
      ∀ i c, full.Holds i c → c.handle ≠ h := by
  refine ⟨⟨taken_due _ _ (by decide +kernel), by unfold State.Holds; decide +kernel⟩,
    ⟨taken_due _ _ (by decide +kernel), by decide +kernel, by decide +kernel⟩, taken_due _ _ (by decide +kernel),
    by decide +kernel, ?_⟩
  intro i c hc e
  have held : some ({ leg .waiting with handle := ⟨6, 0⟩ } : Claim) = some c := by
    unfold State.Holds State.record at hc
    simpa using hc
  rw [← Option.some.inj held] at e
  exact absurd e (by decide)

/-- Records 1 and 2 hold claims of equal and of less urgent priority; record 0 is the lowest FREE one. -/
def queued : State :=
  { hall with
    records := ((Vector.replicate 64 none).set 1 (some { leg .waiting with handle := ⟨6, 0⟩ })).set 2
      (some { leg .waiting with handle := ⟨7, 0⟩, priority := 3 })
    waitList := [1, 2] }

theorem queued_record (i : RecNo) : queued.record i =
    if i = 1 then some { leg .waiting with handle := ⟨6, 0⟩ }
    else if i = 2 then some { leg .waiting with handle := ⟨7, 0⟩, priority := 3 } else none := by
  revert i
  decide +kernel

theorem test_witness_ClaimAcceptedBindsLowestFreeRecord :
    let h : Handle := ⟨5, 0⟩
    let d := claimData 2
    let s := taken queued (.claim h d)
    let geo := admissionGeometry (s.tier h.tier).cfg s.globals (.both .cw 16000 300) (s.projectedPose h.tier)
    s.EntryDue (.claim h d) [] ∧ (∀ j c, s.Holds j c → c.handle ≠ h) ∧
      (s.mode ≠ .config ∧ s.tierState h.tier ≠ .unplaced ∧ s.tierState h.tier ≠ .faulted ∧
        claimMotion d = some (.both .cw 16000 300) ∧ byteAt d 6 ≤ 7 ∧ geo.dist ≤ 32767 ∧
        geo.hi ≤ ceilingOver s.ceilings geo.arc ∧ s.record 0 = none) ∧ (∀ j, j < 0 → s.record j ≠ none) ∧
      s.waitList = [1] ++ [2] ∧
      (∀ j ∈ [(1 : RecNo)], ∃ c, s.Holds j c ∧ c.priority ≤ max (byteAt d 6) (s.tier h.tier).cfg.bestPriority) ∧
      (∀ j ∈ [(2 : RecNo)], ∃ c, s.Holds j c ∧ max (byteAt d 6) (s.tier h.tier).cfg.bestPriority < c.priority) ∧
      (hall.tier 5).legs = [] ∧ (moving.tier 5).legs.getLast? = some 0 ∧
      moving.claimAt ⟨5, 0⟩ = some (0, leg (.granted legGrant)) ∧ frozen.claimAt ⟨5, 0⟩ = some (0, leg (.frozen legGrant)) := by
  refine ⟨taken_due _ _ (by decide +kernel), ?_, by decide +kernel, fun j hj => absurd hj (by simp), rfl, ?_, ?_,
    by decide +kernel⟩
  · intro j c hc e
    have held := (queued_record j).symm.trans hc
    split_ifs at held with h1 h2
    · rw [← Option.some.inj held] at e
      exact absurd e (by decide)
    · rw [← Option.some.inj held] at e
      exact absurd e (by decide)
  · intro j hj
    rw [List.mem_singleton.mp hj]
    exact ⟨_, by unfold State.Holds; exact queued_record 1, by decide +kernel⟩
  · intro j hj
    rw [List.mem_singleton.mp hj]
    exact ⟨_, by unfold State.Holds; exact queued_record 2, by decide +kernel⟩

theorem test_witness_CancelByClaimState :
    let h : Handle := ⟨5, 0⟩
    let e : MpEntry := .cancel h
    ((taken hall e).EntryDue e [] ∧ ∀ i, (taken hall e).record i = none) ∧
      ((taken waiting e).EntryDue e [] ∧ (taken waiting e).claimAt h = some (0, leg .waiting)) ∧
      ((taken moving e).EntryDue e [] ∧ (taken moving e).claimAt h = some (0, leg (.granted legGrant))) ∧
      ((taken stopping e).EntryDue e [] ∧ (taken stopping e).claimAt h = some (0, leg (.stopping legGrant))) ∧
      (taken frozen e).EntryDue e [] ∧ (taken frozen e).claimAt h = some (0, leg (.frozen legGrant)) := by
  intros
  and_intros <;> first | exact taken_due _ _ (by decide +kernel) | decide +kernel

theorem test_witness_ScanRequestByModeAndRunning :
    let halted : State := { waiting with mode := .halt }
    let unmarked : State := { waiting with scan := { Scan.idle with running := true } }
    (halted.mode ≠ .run ∧ ∃ i ∈ halted.waitList, halted.marked i = true) ∧
      (({ unmarked with mode := .halt } : State).scan.running = true ∧ ∀ i ∈ unmarked.waitList, unmarked.marked i = false) ∧
      (waiting.mode = .run ∧ waiting.scan.running = true ∧ ∃ i ∈ waiting.waitList, waiting.marked i = true) ∧
      (unmarked.mode = .run ∧ unmarked.waitList ≠ []) ∧ (hall.mode = .run ∧ hall.waitList = []) ∧ hall.scan.running = false ∧
      (unmarked.scan.running = true ∧ unmarked.scan.rescan = false) ∧
      ({ unmarked with scan := { unmarked.scan with rescan := true } } : State).scan.rescan = true := by decide +kernel

/-- With claim 5.0 alone WAITING the wait list is exact. -/
theorem waiting_list_exact : waiting.WaitListExact := by
  have held : waiting.Holds 0 (leg .waiting) := by
    unfold State.Holds
    decide +kernel
  refine ⟨by decide, fun i => ⟨fun h => ⟨_, (List.mem_singleton.mp h) ▸ held, rfl⟩, fun ⟨_, hc, _⟩ => ?_⟩,
    List.pairwise_singleton _ _⟩
  exact List.mem_singleton.mpr (leg_only rfl hc).1

/-- Two members, the least number the first clause takes; one member, of the second, with and without a rescan pending. -/
theorem test_witness_VisitUsesUpOneMember :
    (let s : State := { queued with scan := { startedScan [1, 2] with running := true } }
     s.resetHeld = false ∧ s.scan.running = true ∧ s.mode = .run ∧ s.waitList.Nodup ∧
       2 ≤ (s.waitList.filter s.marked).length) ∧
      waiting.WaitListExact ∧
      waiting.resetHeld = false ∧ waiting.scan.running = true ∧ waiting.mode = .run ∧
      waiting.waitList.filter waiting.marked = [0] ∧ waiting.scan.rescan = false ∧
      ({ waiting with scan := { waiting.scan with rescan := true } } : State).scan.rescan = true :=
  ⟨by decide +kernel, waiting_list_exact, by decide +kernel⟩

theorem waiting_first : waiting.FirstMarked 0 :=
  ⟨[], [], rfl, by decide +kernel, nofun⟩

theorem test_witness_VisitEndsOrSkips :
    ({ waiting with mode := .halt } : State).mode ≠ .run ∧ waiting.scan.running = true ∧
      (let s : State := { waiting with tiers := waiting.tiers.set 5 { tier5 with legs := [1, 0] } }
       s.FirstMarked 0 ∧ s.record 0 = some (leg .waiting) ∧
         (s.tier (leg .waiting).handle.tier).legs.head? ≠ some (leg .waiting).handle.slot) ∧
      ({ waiting with tiers := waiting.tiers.set 5 { tier5 with legs := [0], standing := none } } : State).tierState 5 ≠ .idle :=
  ⟨by decide, by decide, ⟨⟨[], [], rfl, by decide +kernel, nofun⟩, by decide +kernel, by decide +kernel⟩, by decide +kernel⟩

theorem waiting_visited : waiting.Visited 0 (leg .waiting) :=
  ⟨rfl, rfl, rfl, waiting_first, by decide +kernel, rfl, by decide +kernel, by decide +kernel⟩

/-- From a rest 32,768 counts past the target, and under a ceiling one below the envelope. -/
theorem test_witness_VisitRetiresOutOfReachOrTooHigh :
    (let s : State := { waiting with tiers := waiting.tiers.set 5 { tier5 with legs := [0], rest := ⟨48768, 100⟩ } }
     s.Visited 0 (leg .waiting) ∧ (s.geometryAtRest (leg .waiting)).dist = 32768) ∧
      let s : State := { waiting with ceilings := Vector.replicate 256 299 }
      s.Visited 0 (leg .waiting) ∧ (s.geometryAtRest (leg .waiting)).dist ≤ 32767 ∧
        ceilingOver s.ceilings (s.geometryAtRest (leg .waiting)).arc + 1 = (s.geometryAtRest (leg .waiting)).hi :=
  ⟨⟨⟨rfl, rfl, rfl, ⟨[], [], rfl, by decide +kernel, nofun⟩, by decide +kernel, rfl, by decide +kernel, by decide +kernel⟩,
      by decide +kernel⟩,
    ⟨rfl, rfl, rfl, ⟨[], [], rfl, by decide +kernel, nofun⟩, by decide +kernel, rfl, by decide +kernel, by decide +kernel⟩,
    by decide +kernel, by decide +kernel⟩

theorem waiting_arc_free : waiting.ArcIsFree 5 (waiting.geometryAtRest (leg .waiting)).arc := by
  refine ⟨fun u b hu hb => ?_, fun k b hb => ?_, nofun⟩
  · have none' : ∀ u, u ≠ 5 → waiting.spaceRecord u = none := by decide +kernel
    rw [none' u hu] at hb
    exact absurd hb nofun
  · have none' : ∀ k, waiting.hold k = none := by decide +kernel
    rw [none' k] at hb
    exact absurd hb nofun

/-- A hold on the arc's last position; a HYD pool with one unit too little. -/
theorem test_witness_VisitLeavesWaitingWithShadow :
    (let s : State := { waiting with holds := waiting.holds.set 7 (some ⟨19372, 1⟩) }
     s.Visited 0 (leg .waiting) ∧ ¬s.ArcIsFree 5 (s.geometryAtRest (leg .waiting)).arc) ∧
      let s : State := { waiting with hyd := ⟨59, 0⟩ }
      let geo := s.geometryAtRest (leg .waiting)
      s.Visited 0 (leg .waiting) ∧ s.ArcIsFree 5 geo.arc ∧ geo.dist ≤ 32767 ∧ geo.hi ≤ ceilingOver s.ceilings geo.arc ∧
        ¬(s.hyd.HasRoom s.scan.hydShadow (s.hydDemand (leg .waiting) geo) ∧
          s.slew.HasRoom s.scan.slewShadow (s.slewDemand (leg .waiting) geo)) := by
  refine ⟨⟨⟨rfl, rfl, rfl, ⟨[], [], rfl, by decide +kernel, nofun⟩, by decide +kernel, rfl, by decide +kernel,
      by decide +kernel⟩, fun h => ?_⟩,
    ⟨rfl, rfl, rfl, ⟨[], [], rfl, by decide +kernel, nofun⟩, by decide +kernel, rfl, by decide +kernel, by decide +kernel⟩,
    ⟨waiting_arc_free.tiers, waiting_arc_free.holds, waiting_arc_free.shadows⟩, by decide +kernel, by decide +kernel,
    by unfold Pool.HasRoom; decide +kernel⟩
  have off := h.holds 7 ⟨19372, 1⟩ (by decide +kernel)
  exact absurd off (by decide +kernel)

/-- Pools that the demands fill to the last unit. -/
theorem test_witness_VisitGrantsWhatPassesBothTests :
    let s : State := { waiting with hyd := ⟨60, 0⟩, slew := ⟨40, 0⟩ }
    let geo := s.geometryAtRest (leg .waiting)
    s.Visited 0 (leg .waiting) ∧ geo.dist ≤ 32767 ∧ geo.hi ≤ ceilingOver s.ceilings geo.arc ∧ s.ArcIsFree 5 geo.arc ∧
      s.hyd.HasRoom s.scan.hydShadow (s.hydDemand (leg .waiting) geo) ∧
      s.slew.HasRoom s.scan.slewShadow (s.slewDemand (leg .waiting) geo) :=
  ⟨⟨rfl, rfl, rfl, ⟨[], [], rfl, by decide +kernel, nofun⟩, by decide +kernel, rfl, by decide +kernel, by decide +kernel⟩,
    by decide +kernel, by decide +kernel, ⟨waiting_arc_free.tiers, waiting_arc_free.holds, waiting_arc_free.shadows⟩,
    by unfold Pool.HasRoom; decide +kernel, by unfold Pool.HasRoom; decide +kernel⟩

/-- The data of a REPORT of sequence 7 at an encoder position, rake and flags, as an entry of tier 5. -/
def report5 (encoder rake flags : Nat) : MpEntry := .report 5 (reportData encoder rake (7 + flags))

/-- A duplicate; CONFIG; UNPLACED; FAULTED without the drive-fault flag; IDLE at exactly Lc from rest. -/
theorem test_witness_ReportDiscardedOrOnlyTracked :
    let again : MpEntry := .report 5 (reportData 360000 100 6)
    let e := report5 361024 100 0
    ((taken hall again).EntryDue again [] ∧ (hall.tier 5).haveSeq = true ∧
      byteAt (reportData 360000 100 6) 6 % 16 = (hall.tier 5).lastSeq) ∧
      ((taken setup e).EntryDue e [] ∧ (taken setup e).mode = .config) ∧
      ¬((hall.tier 5).haveSeq = true ∧ byteAt (reportData 361024 100 7) 6 % 16 = (hall.tier 5).lastSeq) ∧
      ({ hall with tiers := hall.tiers.set 5 { tier5 with standing := none } } : State).tierState 5 = .unplaced ∧
      (frozen.tierState 5 = .faulted ∧ byteAt (reportData 361024 100 7) 6 / 32 % 2 = 0) ∧
      (taken hall e).EntryDue e [] ∧ hall.tierState 5 = .idle ∧ byteAt (reportData 361024 100 7) 6 / 16 % 2 = 0 ∧
      absDiff (reportedPose cfg5 (word32At (reportData 361024 100 7) 0) 100).pos 10000 = hall.globals.creepLimit :=
  ⟨⟨taken_due _ _ (by decide +kernel), by decide +kernel⟩, ⟨taken_due _ _ (by decide +kernel), by decide +kernel⟩,
    by decide +kernel, by decide +kernel, by decide +kernel, taken_due _ _ (by decide +kernel), by decide +kernel,
    by decide +kernel, by decide +kernel⟩

/-- DRIVE; CREEP by the moving flag, and one count beyond Lc; ENVELOPE one below and one above the rakes allowed; CONTAIN
one count behind the arc. -/
theorem test_witness_ReportRaisesHardFaults :
    let within (rake : Nat) : Prop := legGrant.lo - globals1.rakeTol ≤ rake ∧ rake ≤ min 450 (legGrant.hi + globals1.rakeTol)
    (let e := report5 360000 100 32
     (taken hall e).EntryDue e [] ∧ hall.mode ≠ .config ∧ hall.tierState 5 ≠ .unplaced ∧
       byteAt (reportData 360000 100 39) 6 / 32 % 2 = 1) ∧
      (hall.tierState 5 = .idle ∧ byteAt (reportData 360000 100 23) 6 / 16 % 2 = 1 ∧
        hall.globals.creepLimit < absDiff (reportedPose cfg5 361040 100).pos 10000) ∧
      (let e := report5 392000 94 16
       (taken moving e).EntryDue e [] ∧ moving.mode ≠ .config ∧
         ¬((moving.tier 5).haveSeq = true ∧ byteAt (reportData 392000 94 23) 6 % 16 = (moving.tier 5).lastSeq) ∧
         byteAt (reportData 392000 94 23) 6 / 32 % 2 = 0 ∧ moving.tierState 5 = .moving ∧
         moving.activeClaim 5 = some (0, leg (.granted legGrant)) ∧ (leg (.granted legGrant)).grant? = some legGrant ∧
         ¬within 94 ∧ ¬within 306 ∧ within 95 ∧ within 305) ∧
      (stopping.tierState 5 = .stopping ∧ stopping.activeClaim 5 = some (0, leg (.stopping legGrant))) ∧
      (footprint cfg5 globals1 (reportedPose cfg5 (200000 + 16 * 9326) 100)).within legGrant.arc = false :=
  ⟨⟨taken_due _ _ (by decide +kernel), by decide +kernel, by decide +kernel, by decide +kernel⟩, by decide +kernel,
    ⟨taken_due _ _ (by decide +kernel), by decide +kernel⟩, by decide +kernel, by decide +kernel⟩

/-- A report that trims nothing (at the origin), and one that trims, of a GRANTED and of a STOPPING claim. -/
theorem test_witness_ContainedReportReloadsLeaseAndTrims :
    let p0 := reportedPose cfg5 360000 100
    let p := reportedPose cfg5 392000 250
    let m := (leg .waiting).motion
    (let e := report5 360000 100 16
     (taken moving e).EntryDue e [] ∧ moving.mode ≠ .config ∧
       ¬((moving.tier 5).haveSeq = true ∧ byteAt (reportData 360000 100 23) 6 % 16 = (moving.tier 5).lastSeq) ∧
       byteAt (reportData 360000 100 23) 6 / 32 % 2 = 0 ∧ byteAt (reportData 360000 100 23) 6 / 16 % 2 = 1) ∧
      (moving.tierState 5 = .moving ∧ moving.activeClaim 5 = some (0, leg (.granted legGrant))) ∧
      (stopping.tierState 5 = .stopping ∧ stopping.activeClaim 5 = some (0, leg (.stopping legGrant))) ∧
      (contained cfg5 globals1 legGrant p0 = true ∧ trimmedArc cfg5 globals1 m legGrant p0.pos = legGrant.arc) ∧
      contained cfg5 globals1 legGrant p = true ∧ trimmedArc cfg5 globals1 m legGrant p.pos ≠ legGrant.arc :=
  ⟨⟨taken_due _ _ (by decide +kernel), by decide +kernel⟩, by decide +kernel, by decide +kernel, by decide +kernel,
    by decide +kernel⟩

theorem test_witness_ContainedReportAtRestRetiresStopped :
    let e := report5 392000 250 0
    (taken stopping e).EntryDue e [] ∧ stopping.mode ≠ .config ∧
      ¬((stopping.tier 5).haveSeq = true ∧ byteAt (reportData 392000 250 7) 6 % 16 = (stopping.tier 5).lastSeq) ∧
      byteAt (reportData 392000 250 7) 6 / 32 % 2 = 0 ∧ byteAt (reportData 392000 250 7) 6 / 16 % 2 = 0 ∧
      stopping.tierState 5 = .stopping ∧ stopping.activeClaim 5 = some (0, leg (.stopping legGrant)) ∧
      (leg (.stopping legGrant)).phase = .stopping legGrant ∧
      contained cfg5 globals1 legGrant (reportedPose cfg5 392000 250) = true :=
  ⟨taken_due _ _ (by decide +kernel), by decide +kernel⟩

/-- Exactly T and Rt from the target, and one count farther. -/
theorem test_witness_ReleaseOfGrantedClaimRetiresIt :
    let d := releaseData (200000 + 16 * 15936) 295
    let e : MpEntry := .release ⟨5, 0⟩ d
    (taken moving e).EntryDue e [] ∧ (moving.tier 5).legs.head? = some 0 ∧
      moving.claimAt ⟨5, 0⟩ = some (0, leg (.granted legGrant)) ∧ (leg (.granted legGrant)).handle = ⟨5, 0⟩ ∧
      reportedPose cfg5 (word32At d 0) (word16At d 4) = ⟨15936, 295⟩ ∧
      contained cfg5 globals1 legGrant ⟨15936, 295⟩ = true ∧
      (absDiff 15936 16000 = globals1.arrivalTol ∧ absDiff 295 300 = globals1.rakeTol) ∧
      contained cfg5 globals1 legGrant ⟨15935, 295⟩ = true ∧ globals1.arrivalTol < absDiff 15935 16000 :=
  ⟨taken_due _ _ (by decide +kernel), by decide +kernel⟩

theorem test_witness_ReleaseOtherwiseByHandle :
    let d := releaseData 392000 250
    let e : MpEntry := .release ⟨5, 0⟩ d
    ((taken hall e).EntryDue e [] ∧ (hall.tier 5).legs.head? ≠ some 0) ∧
      ((taken waiting e).EntryDue e [] ∧ (waiting.tier 5).legs.head? = some 0 ∧
        waiting.claimAt ⟨5, 0⟩ = some (0, leg .waiting)) ∧
      ((taken frozen e).EntryDue e [] ∧ (frozen.tier 5).legs.head? = some 0 ∧
        frozen.claimAt ⟨5, 0⟩ = some (0, leg (.frozen legGrant))) ∧
      ((taken stopping e).EntryDue e [] ∧ (stopping.tier 5).legs.head? = some 0 ∧
        stopping.claimAt ⟨5, 0⟩ = some (0, leg (.stopping legGrant)) ∧
        contained cfg5 globals1 legGrant (reportedPose cfg5 (word32At d 0) (word16At d 4)) = true) ∧
      moving.claimAt ⟨5, 0⟩ = some (0, leg (.granted legGrant)) ∧
      contained cfg5 globals1 legGrant (reportedPose cfg5 (word32At (releaseData 392000 306) 0) 306) = false := by
  intros
  and_intros <;> first | exact taken_due _ _ (by decide +kernel) | decide +kernel

theorem test_witness_CpFrameArrival :
    let full : State := { hall with cpFifo := List.replicate 16 (command 1 []) }
    hall.resetHeld = false ∧ hall.cpPort.link ≠ .busOff ∧
      ({ hall with cpPort := ⟨256, 0, .busOff, ⟨false, false⟩⟩ } : State).cpPort.link = .busOff ∧
      (full.cpFifo.tail.length < 16 ∧ full.cpFifo.length = 16) ∧
      ((⟨.fd, false, false, 0x010, []⟩ : Frame).ident = 0x010 ∧ (⟨.fd, false, false, 0x012, []⟩ : Frame).ident ≠ 0x010) := by
  decide

theorem test_witness_ReplyStartsCompletesOrFails :
    let r : Reply := ⟨1, .ok, 0, []⟩
    (({ hall with replies := [r] } : State).replies = [r] ∧ hall.resetHeld = false ∧ hall.cpPort.link = .onLine ∧
      hall.cpTx = none) ∧
      (({ hall with replies := [r], cpTx := some r } : State).cpTx = some r) ∧
      ({ hall with cpPort := ⟨128, 0, .passive, ⟨false, false⟩⟩ } : State).cpPort.link = .passive := by decide

/-- A frame of 15 bytes, an undefined code, and 15 replies waiting; 16 replies. -/
theorem test_witness_UnknownCommandsAndFullReplyFifo :
    (let s : State := { asked hall 0x09 [] with replies := List.replicate 15 ⟨1, .ok, 0, []⟩ }
     s.resetHeld = false ∧ s.cpFifo = [command 0x09 []] ∧ s.replies.length < 16) ∧
      ((⟨[9, 1], 15⟩ : CpEntry).length < 16) ∧
      byteAt (command 0x09 []).data 1 ∉
        [0x01, 0x02, 0x03, 0x04, 0x05, 0x06, 0x07, 0x08, 0x10, 0x11, 0x12, 0x13, 0x14, 0x15, 0x16, 0x20, 0x21, 0x22, 0x23,
          0x24, 0x30, 0x31] ∧
      16 ≤ ({ hall with replies := List.replicate 16 ⟨1, .ok, 0, []⟩ } : State).replies.length := by decide +kernel

theorem test_witness_ReadStatusAndSetMask :
    (asked hall 0x01 []).CommandDue (command 0x01 []) [] 0x01 ∧
      (asked hall 0x02 [0xFF]).CommandDue (command 0x02 [0xFF]) [] 0x02 :=
  ⟨asked_due _ _ _ (by decide +kernel), asked_due _ _ _ (by decide +kernel)⟩

theorem test_witness_ReadAndClearFaultReportTheCapture :
    (asked hall 0x03 []).CommandDue (command 0x03 []) [] 0x03 ∧ (asked hall 0x04 []).CommandDue (command 0x04 []) [] 0x04 :=
  ⟨asked_due _ _ _ (by decide +kernel), asked_due _ _ _ (by decide +kernel)⟩

/-- Tiers 0 and 1 enabled and placed so that their standing arcs touch without overlap, then overlap by one position. -/
def pair (start1 : Nat) : State :=
  { State.reset with
    tiers := ((Vector.replicate 24 Tier.powerOn).set 0
      { Tier.powerOn with cfg := { TierConfig.powerOn with enabled := true }, standing := some ⟨0, 500⟩ }).set 1
      { Tier.powerOn with cfg := { TierConfig.powerOn with enabled := true }, standing := some ⟨start1, 500⟩ } }

/-- Tier 0 alone enabled, at a rake one above the ceiling there. -/
def one : State :=
  { State.reset with
    tiers := (Vector.replicate 24 Tier.powerOn).set 0
      { Tier.powerOn with
        cfg := { TierConfig.powerOn with enabled := true }, rest := ⟨0, 1⟩, standing := some ⟨0, 500⟩ } }

theorem test_witness_SetModeRunByRow :
    let e := command 0x05 [1]
    ((asked setup 0x05 [2]).CommandDue (command 0x05 [2]) [] 0x05 ∧ byteAt (command 0x05 [2]).data 2 ∉ [0, 1]) ∧
      ((asked setup 0x05 [1]).CommandDue e [] 0x05 ∧ byteAt e.data 2 = 1) ∧
      (hall.mode = .run ∧ ({ hall with mode := .halt } : State).mode = .halt) ∧
      (({ setup with stopnLow := true } : State).mode = .config ∧ setup.stopnLow = false) ∧
      (let s : State := { setup with tiers := setup.tiers.set 5 { tier5 with standing := none } }
       (s.tier 5).cfg.enabled = true ∧ (s.tier 5).standing = none ∧
         ∀ u, u < 5 → (s.tier u).cfg.enabled = true → (s.tier u).standing ≠ none) ∧
      ((∀ t, ((pair 499).tier t).cfg.enabled = true → ((pair 499).tier t).standing ≠ none) ∧
        ((pair 499).tier 0).cfg.enabled = true ∧ ((pair 499).tier 1).cfg.enabled = true ∧
        ¬(∀ a b, ((pair 499).tier 0).standing = some a → ((pair 499).tier 1).standing = some b → a.overlaps b = false) ∧
        ∀ v w : TierNo, v < w → ¬(v < 0 ∨ (v = 0 ∧ w < 1))) ∧
      ((∀ t u : TierNo, t < u → ¬((one.tier t).cfg.enabled = true ∧ (one.tier u).cfg.enabled = true)) ∧
        (one.tier 0).cfg.enabled = true ∧
        (one.tier 0).standing = some ⟨0, 500⟩ ∧ ¬(one.tier 0).rest.rake ≤ ceilingOver one.ceilings ⟨0, 500⟩) ∧
      (∀ t u : TierNo, t < u → ((pair 500).tier t).cfg.enabled = true → ((pair 500).tier u).cfg.enabled = true →
        (((pair 500).tier t).standing.all fun a => ((pair 500).tier u).standing.all fun b => !a.overlaps b) = true) ∧
      ∀ t, ((pair 500).tier t).cfg.enabled = true → ((pair 500).tier t).rest.rake ≤ 0 := by
  refine ⟨⟨asked_due _ _ _ (by decide +kernel), by decide +kernel⟩, ⟨asked_due _ _ _ (by decide +kernel), by decide +kernel⟩,
    by decide +kernel, by decide +kernel, by decide +kernel, ⟨by decide +kernel, by decide +kernel, by decide +kernel,
      fun h => ?_, by decide +kernel⟩, by decide +kernel, by decide +kernel, by decide +kernel⟩
  exact absurd (h ⟨0, 500⟩ ⟨499, 500⟩ (by decide +kernel) (by decide +kernel)) (by decide)

theorem test_witness_SetModeConfigByRow :
    let e := command 0x05 [0]
    ((asked setup 0x05 [0]).CommandDue e [] 0x05 ∧ byteAt e.data 2 = 0 ∧ (asked setup 0x05 [0]).mode = .config) ∧
      ((asked moving 0x05 [0]).CommandDue e [] 0x05 ∧ (asked moving 0x05 [0]).mode ≠ .config ∧
        ∃ i c, (asked moving 0x05 [0]).Holds i c ∧ c.phase ≠ .waiting) ∧
      (asked waiting 0x05 [0]).CommandDue e [] 0x05 ∧ (asked waiting 0x05 [0]).mode ≠ .config ∧
      ∀ i c, (asked waiting 0x05 [0]).Holds i c → c.phase = .waiting :=
  ⟨⟨asked_due _ _ _ (by decide +kernel), by decide +kernel⟩,
    ⟨asked_due _ _ _ (by decide +kernel), by decide, 0, leg (.granted legGrant), by unfold State.Holds; decide +kernel,
      by decide⟩,
    asked_due _ _ _ (by decide +kernel), by decide, fun _ _ h => by rw [(leg_only rfl h).2]; rfl⟩

theorem test_witness_HaltAndResumeByMode :
    (asked setup 0x06 []).CommandDue (command 0x06 []) [] 0x06 ∧ (asked setup 0x07 []).CommandDue (command 0x07 []) [] 0x07 ∧
      (asked hall 0x06 []).CommandDue (command 0x06 []) [] 0x06 ∧ (asked hall 0x07 []).CommandDue (command 0x07 []) [] 0x07 ∧
      (let s : State := { hall with mode := .halt }
       (asked s 0x06 []).CommandDue (command 0x06 []) [] 0x06 ∧ (asked s 0x07 []).CommandDue (command 0x07 []) [] 0x07 ∧
         s.stopnLow = false) ∧
      let s : State := { hall with mode := .halt, stopnLow := true }
      (asked s 0x07 []).CommandDue (command 0x07 []) [] 0x07 ∧ s.stopnLow = true := by
  and_intros <;> first | exact asked_due _ _ _ (by decide +kernel) | rfl

theorem test_witness_SoftResetBlockByBlock : (asked moving 0x08 []).CommandDue (command 0x08 []) [] 0x08 :=
  asked_due _ _ _ (by decide +kernel)

/-- A tier and a field just out of range; a flag of 1 and of 2; H at 1, at 8191, at 8192 and at 0. -/
theorem test_witness_WriteTierByRow :
    let e (t f v : Nat) := command 0x10 (u8 t ++ u8 f ++ u32 v)
    ((asked hall 0x10 (u8 5 ++ u8 0 ++ u32 1)).CommandDue (e 5 0 1) [] 0x10 ∧ hall.mode ≠ .config) ∧
      ((asked setup 0x10 (u8 24 ++ u8 0 ++ u32 1)).CommandDue (e 24 0 1) [] 0x10 ∧ setup.mode = .config ∧
        23 < byteAt (e 24 0 1).data 2) ∧
      9 < byteAt (e 5 10 1).data 3 ∧ byteAt (e 23 0 1).data 2 = (23 : TierNo).val ∧
      (1 < word32At (e 5 0 2).data 4 ∧ word32At (e 5 9 1).data 4 ≤ 1 ∧ byteAt (e 5 9 1).data 3 = 0x09) ∧
      byteAt (e 5 7 0xFFFFFFFF).data 3 = 0x07 ∧
      (byteAt (e 5 1 1).data 3 = 0x01 ∧ word32At (e 5 1 1).data 4 = 1 ∧ word32At (e 5 1 8191).data 4 ≤ 8191) ∧
      8191 < word32At (e 5 1 8192).data 4 ∧ word32At (e 5 1 0).data 4 < 1 :=
  ⟨⟨asked_due _ _ _ (by decide +kernel), by decide⟩, ⟨asked_due _ _ _ (by decide +kernel), by decide +kernel⟩,
    by decide +kernel⟩

theorem test_witness_WriteGlobalByRow :
    let e (p v : Nat) := command 0x14 (u8 p ++ u32 v)
    ((asked hall 0x14 (u8 0 ++ u32 0)).CommandDue (e 0 0) [] 0x14 ∧ hall.mode ≠ .config) ∧
      ((asked setup 0x14 (u8 7 ++ u32 0)).CommandDue (e 7 0) [] 0x14 ∧ setup.mode = .config ∧ 6 < byteAt (e 7 0).data 2) ∧
      (byteAt (e 6 1).data 2 = 6 ∧ word32At (e 6 1).data 3 = 1 ∧ word32At (e 6 255).data 3 ≤ 255) ∧
      255 < word32At (e 6 256).data 3 ∧ word32At (e 6 0).data 3 < 1 :=
  ⟨⟨asked_due _ _ _ (by decide +kernel), by decide⟩, ⟨asked_due _ _ _ (by decide +kernel), by decide +kernel⟩,
    by decide +kernel, by decide +kernel, by decide +kernel⟩

theorem test_witness_ReadTierAndGlobalReturnTheField :
    ((asked hall 0x11 [24, 0]).CommandDue (command 0x11 [24, 0]) [] 0x11 ∧ 23 < byteAt (command 0x11 [24, 0]).data 2) ∧
      (9 < byteAt (command 0x11 [5, 0x0F]).data 3 ∧ byteAt (command 0x11 [5, 0x0F]).data 3 < 0x10 ∧
        0x17 < byteAt (command 0x11 [5, 0x18]).data 3) ∧
      ((asked hall 0x11 [5, 0x17]).CommandDue (command 0x11 [5, 0x17]) [] 0x11 ∧
        byteAt (command 0x11 [5, 0x17]).data 2 = (5 : TierNo).val ∧ byteAt (command 0x11 [5, 0x17]).data 3 = 0x17) ∧
      (asked hall 0x15 [6]).CommandDue (command 0x15 [6]) [] 0x15 ∧ byteAt (command 0x15 [6]).data 2 = 6 ∧
      6 < byteAt (command 0x15 [7]).data 2 :=
  ⟨⟨asked_due _ _ _ (by decide +kernel), by decide +kernel⟩, by decide +kernel,
    ⟨asked_due _ _ _ (by decide +kernel), by decide +kernel⟩, asked_due _ _ _ (by decide +kernel), by decide +kernel⟩

theorem test_witness_SetRestAndAdoptPlaceTheTier :
    let e (t p r : Nat) := command 0x12 (u8 t ++ u32 p ++ u32 r)
    ((asked hall 0x12 (u8 5 ++ u32 0 ++ u32 0)).CommandDue (e 5 0 0) [] 0x12 ∧ hall.mode ≠ .config) ∧
      ((asked setup 0x12 (u8 24 ++ u32 0 ++ u32 0)).CommandDue (e 24 0 0) [] 0x12 ∧ setup.mode = .config ∧
        23 < byteAt (e 24 0 0).data 2) ∧
      ((asked setup 0x12 (u8 5 ++ u32 65535 ++ u32 450)).CommandDue (e 5 65535 450) [] 0x12 ∧
        byteAt (e 5 65535 450).data 2 = (5 : TierNo).val ∧ word32At (e 5 65535 450).data 3 = 65535 ∧
        word32At (e 5 65535 450).data 7 = 450) ∧
      (65535 < word32At (e 5 65536 0).data 3 ∧ 450 < word32At (e 5 0 451).data 7) ∧
      ((asked setup 0x13 [4]).CommandDue (command 0x13 [4]) [] 0x13 ∧ (setup.tier 4).havePose = false) ∧
      (asked setup 0x13 [5]).CommandDue (command 0x13 [5]) [] 0x13 ∧ (setup.tier 5).havePose = true :=
  ⟨⟨asked_due _ _ _ (by decide +kernel), by decide⟩, ⟨asked_due _ _ _ (by decide +kernel), by decide +kernel⟩,
    ⟨asked_due _ _ _ (by decide +kernel), by decide +kernel⟩, by decide +kernel,
    ⟨asked_due _ _ _ (by decide +kernel), by decide +kernel⟩, asked_due _ _ _ (by decide +kernel), by decide +kernel⟩

/-- Sector 250 with count 6, the last run there is; one sector farther; counts 0 and 7; values 450 and 451. -/
theorem test_witness_WriteCeilingByRow :
    let e (l : List Byte) := command 0x16 l
    ((asked hall 0x16 [0, 1]).CommandDue (e [0, 1]) [] 0x16 ∧ hall.mode ≠ .config) ∧
      ((asked setup 0x16 [251, 6]).CommandDue (e [251, 6]) [] 0x16 ∧ setup.mode = .config ∧
        255 < byteAt (e [251, 6]).data 2 + byteAt (e [251, 6]).data 3 - 1) ∧
      (byteAt (e [0, 0]).data 3 = 0 ∧ 6 < byteAt (e [0, 7]).data 3) ∧
      ((asked setup 0x16 [250, 6]).CommandDue (e [250, 6]) [] 0x16 ∧ byteAt (e [250, 6]).data 3 = 6 ∧
        byteAt (e [250, 6]).data 2 + byteAt (e [250, 6]).data 3 - 1 = 255 ∧
        ∀ k < 6, word16At (e [250, 6]).data (4 + 2 * k) ≤ 450) ∧
      ¬∀ k < 1, word16At (e ([0, 1] ++ u16 451)).data (4 + 2 * k) ≤ 450 :=
  ⟨⟨asked_due _ _ _ (by decide +kernel), by decide⟩, ⟨asked_due _ _ _ (by decide +kernel), by decide +kernel⟩,
    by decide +kernel, ⟨asked_due _ _ _ (by decide +kernel), by decide +kernel⟩, by decide +kernel⟩

/-- Pool 2; a raise by one and the capacity as it stands, of each pool. -/
theorem test_witness_SetPoolByRow :
    let e (p v : Nat) := command 0x20 (u8 p ++ u32 v)
    ((asked hall 0x20 (u8 2 ++ u32 0)).CommandDue (e 2 0) [] 0x20 ∧ 1 < byteAt (e 2 0).data 2) ∧
      ((asked hall 0x20 (u8 0 ++ u32 101)).CommandDue (e 0 101) [] 0x20 ∧ byteAt (e 0 101).data 2 = 0 ∧
        hall.hyd.capacity < min (word32At (e 0 101).data 3) 4095 ∧ min (word32At (e 0 100).data 3) 4095 ≤ hall.hyd.capacity) ∧
      (asked hall 0x20 (u8 1 ++ u32 4096)).CommandDue (e 1 4096) [] 0x20 ∧ byteAt (e 1 4096).data 2 = 1 ∧
      hall.slew.capacity < min (word32At (e 1 4096).data 3) 4095 ∧ min (word32At (e 1 100).data 3) 4095 ≤ hall.slew.capacity :=
  ⟨⟨asked_due _ _ _ (by decide +kernel), by decide +kernel⟩, ⟨asked_due _ _ _ (by decide +kernel), by decide +kernel⟩,
    asked_due _ _ _ (by decide +kernel), by decide +kernel⟩

/-- A full Hold List, and one with entry 7 alone free; entry 8, and entry 7 free and occupied. -/
theorem test_witness_HoldsPlacedAndLiftedByRow :
    let e := command 0x21 (u32 65536 ++ u32 0)
    let full : State := { hall with holds := Vector.replicate 8 (some ⟨0, 1⟩) }
    let last : State := { hall with holds := (Vector.replicate 8 (some ⟨0, 1⟩)).set 7 none }
    let held : State := { hall with holds := hall.holds.set 7 (some ⟨0, 1⟩) }
    ((asked full 0x21 (u32 65536 ++ u32 0)).CommandDue e [] 0x21 ∧ ∀ k, full.hold k ≠ none) ∧
      ((asked last 0x21 (u32 65536 ++ u32 0)).CommandDue e [] 0x21 ∧ last.hold 7 = none ∧
        ∀ j, j < 7 → last.hold j ≠ none) ∧
      ((asked hall 0x22 [8]).CommandDue (command 0x22 [8]) [] 0x22 ∧ 7 < byteAt (command 0x22 [8]).data 2) ∧
      ((asked hall 0x22 [7]).CommandDue (command 0x22 [7]) [] 0x22 ∧ byteAt (command 0x22 [7]).data 2 = (7 : HoldNo).val ∧
        hall.hold 7 = none) ∧
      (asked held 0x22 [7]).CommandDue (command 0x22 [7]) [] 0x22 ∧ held.hold 7 ≠ none := by
  intro e full last held
  and_intros <;> first | exact asked_due _ _ _ (by decide +kernel) | decide +kernel

theorem test_witness_CancelClaimByRow :
    let e := command 0x23 [5, 0]
    ((asked hall 0x23 [24, 0]).CommandDue (command 0x23 [24, 0]) [] 0x23 ∧ 23 < byteAt (command 0x23 [24, 0]).data 2 ∧
      3 < byteAt (command 0x23 [5, 4]).data 3) ∧
      ((asked hall 0x23 [5, 0]).CommandDue e [] 0x23 ∧ byteAt e.data 2 = (5 : TierNo).val ∧ byteAt e.data 3 = (0 : SlotNo).val ∧
        ∀ i, hall.record i = none) ∧
      ((asked waiting 0x23 [5, 0]).CommandDue e [] 0x23 ∧ waiting.claimAt ⟨5, 0⟩ = some (0, leg .waiting)) ∧
      ((asked moving 0x23 [5, 0]).CommandDue e [] 0x23 ∧ moving.claimAt ⟨5, 0⟩ = some (0, leg (.granted legGrant))) ∧
      ((asked stopping 0x23 [5, 0]).CommandDue e [] 0x23 ∧ stopping.claimAt ⟨5, 0⟩ = some (0, leg (.stopping legGrant))) ∧
      (asked frozen 0x23 [5, 0]).CommandDue e [] 0x23 ∧ frozen.claimAt ⟨5, 0⟩ = some (0, leg (.frozen legGrant)) := by
  intros
  and_intros <;> first | exact asked_due _ _ _ (by decide +kernel) | decide +kernel

/-- Each check of CLEAR_TIER; a tier faulted while idle and one with a FROZEN claim, each with its candidate clear, and
with tier 6's standing arc in its way. -/
theorem test_witness_ClearTierByRow :
    let e := command 0x24 [5]
    let idle : State := { hall with tiers := hall.tiers.set 5 { tier5 with fault := some .creep } }
    let neighbour : Tier :=
      { Tier.powerOn with cfg := { TierConfig.powerOn with enabled := true }, standing := some ⟨12699, 100⟩ }
    let blocked (s : State) : State := { s with tiers := s.tiers.set 6 neighbour }
    let candidate := footprint cfg5 globals1 ⟨10000, 100⟩
    ((asked setup 0x24 [5]).CommandDue e [] 0x24 ∧ setup.mode = .config) ∧
      ((asked hall 0x24 [24]).CommandDue (command 0x24 [24]) [] 0x24 ∧ hall.mode ≠ .config ∧
        23 < byteAt (command 0x24 [24]).data 2) ∧
      ((asked hall 0x24 [5]).CommandDue e [] 0x24 ∧ byteAt e.data 2 = (5 : TierNo).val ∧ hall.tierState 5 ≠ .faulted) ∧
      ((asked idle 0x24 [5]).CommandDue e [] 0x24 ∧ idle.tierState 5 = .faulted ∧ idle.headClaim 5 = none ∧
        ∀ u, u ≠ 5 → idle.spaceRecord u = none) ∧
      ((blocked idle).tierState 5 = .faulted ∧ (blocked idle).headClaim 5 = none ∧
        (blocked idle).spaceRecord 6 = some ⟨12699, 100⟩ ∧ candidate.overlaps ⟨12699, 100⟩ = true) ∧
      ((asked frozen 0x24 [5]).CommandDue e [] 0x24 ∧ frozen.tierState 5 = .faulted ∧
        frozen.headClaim 5 = some (0, leg (.frozen legGrant)) ∧ ∀ u, u ≠ 5 → frozen.spaceRecord u = none) ∧
      (blocked frozen).tierState 5 = .faulted ∧ (blocked frozen).headClaim 5 = some (0, leg (.frozen legGrant)) ∧
      (blocked frozen).spaceRecord 6 = some ⟨12699, 100⟩ := by
  intros
  and_intros <;> first | exact asked_due _ _ _ (by decide +kernel) | decide +kernel

theorem test_witness_SetCursorByRow :
    let e (t i : Nat) := command 0x30 (u8 t ++ u16 i)
    ((asked hall 0x30 (u8 6 ++ u16 0)).CommandDue (e 6 0) [] 0x30 ∧ 5 < byteAt (e 6 0).data 2) ∧
      (asked hall 0x30 (u8 4 ++ u16 255)).CommandDue (e 4 255) [] 0x30 ∧ byteAt (e 4 255).data 2 = 4 ∧
      word16At (e 4 255).data 3 ≤ 255 ∧ 255 < word16At (e 4 256).data 3 :=
  ⟨⟨asked_due _ _ _ (by decide +kernel), by decide +kernel⟩, asked_due _ _ _ (by decide +kernel), by decide +kernel⟩

/-- The last index of each table, and the first past it. -/
theorem test_witness_ReadNextReturnsTheEntry :
    let at' (t : TableId) (i : Nat) : State := { waiting with cursor := ⟨t, i⟩ }
    (∀ t ∈ [TableId.tiers, .claims, .waitList, .holds, .ceiling, .mailboxes],
      (asked (at' t 0) 0x31 []).CommandDue (command 0x31 []) [] 0x31) ∧
      ((at' .tiers 23).cursor.index = (23 : TierNo).val ∧ 24 ≤ (at' .tiers 24).cursor.index) ∧
      64 ≤ (at' .claims 64).cursor.index ∧
      (waiting.waitList[(at' .waitList 0).cursor.index]? = some 0 ∧ waiting.Holds 0 (leg .waiting) ∧
        waiting.waitList.length ≤ (at' .waitList 1).cursor.index) ∧
      ((at' .holds 7).cursor.index = (7 : HoldNo).val ∧ waiting.hold 7 = none ∧
        ({ waiting with holds := waiting.holds.set 7 (some ⟨0, 1⟩) } : State).hold 7 = some ⟨0, 1⟩) ∧
      ((at' .ceiling 255).cursor.index < 256 ∧ 256 ≤ (at' .ceiling 256).cursor.index) ∧
      (at' .mailboxes 95).cursor.index = 4 * (⟨23, 3⟩ : Handle).tier.val + (⟨23, 3⟩ : Handle).slot.val :=
  ⟨fun _ _ => asked_due _ _ _ rfl, by decide +kernel, by decide +kernel,
    ⟨by decide +kernel, by unfold State.Holds; decide +kernel, by decide +kernel⟩, by decide +kernel, by decide +kernel,
    by decide +kernel⟩

theorem tier5_inRange : ({ tier5 with legs := [0], lease := 20, leaseRunning := true } : Tier).InRange := by
  refine ⟨by decide, by decide, fun a ha => ?_, by decide, by decide⟩
  rw [← Option.some.inj ha]
  decide

theorem powerOn_inRange : Tier.powerOn.InRange :=
  ⟨by decide, by decide, nofun, by decide, by decide⟩

theorem moving_tier (t : TierNo) : moving.tier t =
    if t = 5 then { tier5 with legs := [0], lease := 20, leaseRunning := true } else Tier.powerOn := by
  revert t
  decide +kernel

theorem leg_inRange : (leg (.granted legGrant)).InRange := by
  refine ⟨by decide, by decide, by decide, fun g hg => ?_⟩
  rw [← Option.some.inj hg]
  exact ⟨by decide, by decide, by decide⟩

theorem moving_records_inRange : moving.RecordsInRange := by
  refine ⟨fun t => ?_, fun i c h => ?_⟩
  · rw [moving_tier]
    split_ifs
    · exact tier5_inRange
    · exact powerOn_inRange
  · rw [(leg_only rfl h).2]
    exact leg_inRange

theorem test_witness_ClaimRecordEntryIsPacked :
    let s : State := { asked moving 0x31 [] with cursor := ⟨.claims, 63⟩ }
    s.CommandDue (command 0x31 []) [] 0x31 ∧ s.cursor = ⟨.claims, (63 : RecNo).val⟩ ∧ s.RecordsInRange :=
  ⟨⟨rfl, rfl, by decide, Nat.le_refl 16, by decide +kernel⟩, rfl, moving_records_inRange.tiers, moving_records_inRange.claims⟩

theorem cfg5_inRange : cfg5.InRange :=
  ⟨by decide, by decide, by decide, by decide, by decide, by decide, by decide, by decide⟩

theorem globals1_inRange : globals1.InRange :=
  ⟨by decide, by decide, by decide, by decide, by decide, by decide, by decide⟩

/-- The greatest width the ranges allow. -/
theorem test_witness_FootprintWidens :
    ({ cfg5 with halfWidth := 8191, wing := 4095, fold := 449 } : TierConfig).InRange ∧
      ({ globals1 with margin := 2047 } : Globals).InRange :=
  ⟨⟨by decide, by decide, by decide, by decide, by decide, by decide, by decide, by decide⟩,
    ⟨by decide, by decide, by decide, by decide, by decide, by decide, by decide⟩⟩

theorem test_witness_TrimKeepsLeadingEndAndFootprint :
    cfg5.InRange ∧ globals1.InRange ∧ legGrant.InRange ∧ Pose.InRange ⟨12000, 250⟩ ∧
      contained cfg5 globals1 legGrant ⟨12000, 250⟩ = true :=
  ⟨cfg5_inRange, globals1_inRange, ⟨by decide, by decide, by decide⟩, by decide, by decide⟩

/-- Arcs that touch, and one that ends with the arc around it. -/
theorem test_witness_OverlapOfArcs :
    Arc.InRange ⟨1000, 500⟩ ∧ Arc.InRange ⟨1500, 200⟩ ∧ Arc.InRange ⟨1498, 2⟩ ∧
      (⟨1498, 2⟩ : Arc).within ⟨1000, 500⟩ = true ∧ (⟨1000, 500⟩ : Arc).overlaps ⟨1500, 200⟩ = false := by decide

theorem test_witness_StepRunsTheFrontEvent :
    ({ hall with pending := [.visit] } : State).pending = .visit :: [] ∧ hall.pending = [] := by decide

theorem test_witness_HardFaultRecordStaysUntilCleared :
    let r : FaultRecord := ⟨.hallStop, none, none, none, .run⟩
    let s : State := { hall with capture := some r }
    s.capture = some r ∧ r.kind.isHard = true ∧ exec .readStatus s = .next s ∧ Instr.readStatus ≠ .clearFault ∧
      Instr.readStatus ≠ .softReset ∧ (∀ cause low, Instr.readStatus ≠ .powerOnReset cause low) ∧
      ∀ straps low, Instr.readStatus ≠ .resetnRisingEdge straps low :=
  ⟨rfl, rfl, rfl, nofun, nofun, fun _ _ => nofun, fun _ _ => nofun⟩

/-! ### A state in RUN with a claim GRANTED that meets every invariant -/

theorem moving_leg {i : RecNo} {c : Claim} (h : moving.Holds i c) : i = 0 ∧ c = leg (.granted legGrant) :=
  leg_only rfl h

theorem moving_holds : moving.Holds 0 (leg (.granted legGrant)) := by
  unfold State.Holds
  decide +kernel

theorem moving_space (t : TierNo) (h : t ≠ 5) : moving.spaceRecord t = none := by
  revert t
  decide +kernel

theorem moving_hold (k : HoldNo) : moving.hold k = none := by
  revert k
  decide +kernel

theorem moving_settings : moving.SettingsInRange := by
  refine ⟨fun t => ?_, globals1_inRange, by decide +kernel, by decide, fun k a h => ?_⟩
  · rw [moving_tier]
    split_ifs
    · exact cfg5_inRange
    · exact ⟨by decide, by decide, by decide, by decide, by decide, by decide, by decide, by decide⟩
  · rw [moving_hold] at h
    exact absurd h nofun

theorem moving_ports : moving.PortsConsistent :=
  ⟨⟨by decide, by decide, rfl⟩, ⟨by decide, by decide, rfl⟩, nofun, nofun⟩

theorem moving_safe : moving.Safe where
  handles := fun _ _ _ _ hc hd _ => (moving_leg hc).1.trans (moving_leg hd).1.symm
  waitList :=
    ⟨List.nodup_nil, fun _ => ⟨nofun, fun ⟨_, hc, hw⟩ => by rw [(moving_leg hc).2] at hw; exact absurd hw nofun⟩,
      List.Pairwise.nil⟩
  legQueues := by
    have legs : ∀ t k, k ∈ (moving.tier t).legs ↔ (leg (.granted legGrant)).handle = ⟨t, k⟩ := by decide +kernel
    have rest : ∀ t, (moving.tier t).legs.tail = [] := by decide +kernel
    refine ⟨by decide +kernel, fun t k => ?_, fun t k hk => ?_⟩
    · rw [legs]
      exact ⟨fun h => ⟨0, _, moving_holds, h⟩, fun ⟨_, _, hc, h⟩ => by rw [(moving_leg hc).2] at h; exact h⟩
    · rw [rest] at hk
      exact absurd hk nofun
  mailboxes := by
    have vacant : ∀ t k, (leg (.granted legGrant)).handle ≠ ⟨t, k⟩ → (moving.mailbox ⟨t, k⟩).state = .free := by
      decide +kernel
    refine ⟨fun i c hc => ?_, fun h hv => vacant h.tier h.slot (hv 0 _ moving_holds)⟩
    rw [(moving_leg hc).2]
    decide +kernel
  permit := by
    have line : ∀ t, moving.permitLine t = true ↔ (5 : TierNo) = t := by decide +kernel
    intro t
    rw [line]
    exact ⟨fun h => ⟨0, _, legGrant, moving_holds, h, rfl⟩,
      fun ⟨_, _, _, hc, ht, _⟩ => by rw [(moving_leg hc).2] at ht; exact ht⟩
  leases := by
    have runs : ∀ t, (moving.tier t).leaseRunning = true ↔ (5 : TierNo) = t := by decide +kernel
    refine ⟨fun t => ?_, by decide +kernel⟩
    rw [runs]
    exact ⟨fun h => ⟨0, _, legGrant, moving_holds, h, .inl rfl⟩,
      fun ⟨_, _, _, hc, ht, _⟩ => by rw [(moving_leg hc).2] at ht; exact ht⟩
  faults := by
    have sound : ∀ t, (moving.tier t).fault = none := by decide +kernel
    refine ⟨fun _ c _ hf => ?_, fun _ _ _ hc hp => ?_⟩
    · rw [sound] at hf
      exact absurd hf nofun
    · rw [(moving_leg hc).2] at hp
      exact absurd hp nofun
  grantedOnlyInRun := fun _ _ _ _ _ => rfl
  configEmpty := nofun
  placed := by
    refine ⟨fun _ => by decide +kernel, fun _ _ hc => ?_⟩
    rw [(moving_leg hc).2]
    decide +kernel
  pools := ⟨by decide +kernel, by decide +kernel, by decide⟩
  holds := fun _ _ _ k _ _ _ ha => by rw [moving_hold] at ha; exact absurd ha nofun
  ceilings := fun _ _ _ hc hg => by
    rw [(moving_leg hc).2] at hg
    rw [← Option.some.inj hg]
    decide +kernel
  space := fun _ t u _ _ htu ha hb => by
    by_cases ht : t = 5
    · rw [moving_space u (by rw [← ht]; exact htu.symm)] at hb
      exact absurd hb nofun
    · rw [moving_space t ht] at ha
      exact absurd ha nofun
  settings := moving_settings
  records := moving_records_inRange
  fifos := ⟨by decide, by decide, by decide⟩
  replyInFlight := nofun
  held := nofun
  ports := moving_ports
  capture := nofun
  scan := by
    have marks : ∀ i, moving.marked i = false := by decide +kernel
    exact ⟨fun _ => rfl, nofun, fun i h => by rw [marks] at h; exact absurd h nofun⟩
  attention := ⟨by decide +kernel, fun _ => by decide +kernel, nofun⟩

theorem test_witness_AttentionFlagsFollowConditions : moving.AttentionFollows ∧ moving.resetHeld = false :=
  ⟨moving_safe.attention, rfl⟩

theorem test_witness_StepKeepsSafe : moving.Safe ∧ step moving = .next moving := ⟨moving_safe, rfl⟩

/-- Two WAITING claims in order, one behind the other in priority. -/
theorem test_witness_StepKeepsWaitListExact : queued.WaitListExact ∧ step queued = .next queued := by
  have members : ∀ i, i ∈ queued.waitList ↔ (queued.record i).isSome = true := by decide +kernel
  have waits : ∀ i c, queued.record i = some c → c.phase = .waiting := by
    intro i c h
    have e := (queued_record i).symm.trans h
    split_ifs at e
    · rw [← Option.some.inj e]; rfl
    · rw [← Option.some.inj e]; rfl
  refine ⟨⟨by decide, fun i => ?_, ?_⟩, rfl⟩
  · rw [members, Option.isSome_iff_exists]
    exact ⟨fun ⟨c, h⟩ => ⟨c, h, waits i c h⟩, fun ⟨c, h, _⟩ => ⟨c, h⟩⟩
  · refine List.pairwise_pair.mpr fun c d hc hd => ?_
    rw [← Option.some.inj ((queued_record 1).symm.trans hc), ← Option.some.inj ((queued_record 2).symm.trans hd)]
    decide

theorem test_witness_StepKeepsGrantedOnlyInRun : moving.GrantedOnlyInRun ∧ step moving = .next moving :=
  ⟨moving_safe.grantedOnlyInRun, rfl⟩

theorem test_witness_StepKeepsSettingsInRange : moving.SettingsInRange ∧ step moving = .next moving :=
  ⟨moving_settings, rfl⟩

theorem test_witness_StepKeepsPortsConsistent :
    (moving.FifosBounded ∧ moving.PortsConsistent ∧ moving.ReplyInFlight) ∧ step moving = .next moving :=
  ⟨⟨moving_safe.fifos, moving_ports, moving_safe.replyInFlight⟩, rfl⟩

end Sys2Proof.Tests
end

section
/-! SUPPORT. The settings of a state (tier configurations, global parameters, ceilings, pool capacities, zone holds): which
operations and events leave them as they were, and that those that write them keep them in range. -/

namespace Sys2Proof.Machine

/-! ### The settings of a state, and the operations that leave them -/

/-- What the console sets: tier configurations, global parameters, ceilings, pool capacities, zone holds (R5, R20, R23,
R86, R92). -/
structure Settings where
  configs : TierNo → TierConfig
  globals : Globals
  ceilings : Vector Nat 256
  hydCapacity : Nat
  slewCapacity : Nat
  holds : Vector (Option Arc) 8

def State.settings (s : State) : Settings :=
  ⟨fun t => (s.tier t).cfg, s.globals, s.ceilings, s.hyd.capacity, s.slew.capacity, s.holds⟩

/-- The ranges of R5, R20, R23, R86 and R92 speak of the settings alone. -/
theorem State.SettingsInRange.of_settings_eq {s u : State} (h : s.SettingsInRange) (e : u.settings = s.settings) :
    u.SettingsInRange := by
  simp only [State.settings, Settings.mk.injEq] at e
  obtain ⟨configs, globals, ceilings, hyd, slew, holds⟩ := e
  constructor
  · exact fun t => congrFun configs t ▸ h.configs t
  · exact globals ▸ h.globals
  · exact ceilings ▸ h.ceilings
  · exact hyd ▸ slew ▸ h.capacities
  · intro k a hk
    exact h.holds k a (by simpa only [State.hold, holds] using hk)

/-- A state that differs outside the settings has the same settings; tier by tier, the configuration is what counts. -/
theorem State.settings_eq_of_cfg {s u : State} (configs : ∀ t, (u.tier t).cfg = (s.tier t).cfg)
    (globals : u.globals = s.globals := by rfl) (ceilings : u.ceilings = s.ceilings := by rfl)
    (hyd : u.hyd.capacity = s.hyd.capacity := by rfl) (slew : u.slew.capacity = s.slew.capacity := by rfl)
    (holds : u.holds = s.holds := by rfl) : u.settings = s.settings := by
  simp only [State.settings, configs, globals, ceilings, hyd, slew, holds]

section Frames
variable (s : State)

/-- A write of a tier record that keeps its configuration keeps the settings (R22). -/
theorem State.setTier_settings (t : TierNo) {r : Tier} (h : r.cfg = (s.tier t).cfg) :
    (s.setTier t r).settings = s.settings :=
  State.settings_eq_of_cfg fun u => by
    rw [State.setTier_tier]
    split_ifs with e
    · exact e ▸ h
    · rfl

@[simp] theorem State.setRecord_settings (i : RecNo) (c : Option Claim) : (s.setRecord i c).settings = s.settings := rfl
@[simp] theorem State.setMailbox_settings (h : Handle) (m : Mailbox) : (s.setMailbox h m).settings = s.settings := rfl
@[simp] theorem State.setPermit_settings (t : TierNo) (b : Bool) : (s.setPermit t b).settings = s.settings := rfl
@[simp] theorem State.unmark_settings (i : RecNo) : (s.unmark i).settings = s.settings := rfl
@[simp] theorem State.withWaitList_settings (l : List RecNo) : { s with waitList := l }.settings = s.settings := rfl
@[simp] theorem State.withMode_settings (m : Mode) : { s with mode := m }.settings = s.settings := rfl
@[simp] theorem State.withMpFifo_settings (l : List MpEntry) : { s with mpFifo := l }.settings = s.settings := rfl
@[simp] theorem State.withCpFifo_settings (l : List CpEntry) : { s with cpFifo := l }.settings = s.settings := rfl
@[simp] theorem State.withCpPort_settings (p : Port) : { s with cpPort := p }.settings = s.settings := rfl
@[simp] theorem State.withPending_settings (l : List Instr) : { s with pending := l }.settings = s.settings := rfl
@[simp] theorem State.withStopnLow_settings (b : Bool) : { s with stopnLow := b }.settings = s.settings := rfl
@[simp] theorem State.post_settings (h : Handle) (st : ClaimState) (r : Result) :
    (s.post h st r).settings = s.settings := rfl
@[simp] theorem State.repend_settings (h : Handle) : (s.repend h).settings = s.settings := rfl
@[simp] theorem State.drawPools_settings (g : Grant) : (s.drawPools g).settings = s.settings := rfl
@[simp] theorem State.returnPools_settings (g : Grant) : (s.returnPools g).settings = s.settings := rfl
@[simp] theorem State.reply_settings (r : Reply) : (s.reply r).settings = s.settings := rfl
@[simp] theorem State.driveAttn_settings : s.driveAttn.settings = s.settings := rfl
@[simp] theorem State.settle_settings : s.settle.settings = s.settings := rfl
@[simp] theorem State.endScan_settings : s.endScan.settings = s.settings := rfl
@[simp] theorem State.castShadow_settings (a : Arc) : (s.castShadow a).settings = s.settings := rfl
@[simp] theorem State.shadowPools_settings (g : Grant) : (s.shadowPools g).settings = s.settings := rfl
@[simp] theorem State.requestScan_settings : s.requestScan.settings = s.settings := by rw [State.requestScan_eq]; rfl
@[simp] theorem State.closeScan_settings : s.closeScan.settings = s.settings := by rw [State.closeScan_eq]; rfl
@[simp] theorem State.rescan_settings : s.rescan.settings = s.settings := by rw [State.rescan_eq]; rfl
@[simp] theorem State.raise_settings (k : FaultKind) (t : Option TierNo) (slot : Option SlotNo) (pose : Option Pose) :
    (s.raise k t slot pose).settings = s.settings := by rw [State.raise_eq]; rfl
@[simp] theorem State.stopWhere_settings (p : Handle → Arc → Bool) : (s.stopWhere p).settings = s.settings := by
  simp [State.stopWhere_eq, State.settings]
@[simp] theorem State.retireWaitingWhere_settings (p : Claim → Bool) (r : Result) :
    (s.retireWaitingWhere p r).settings = s.settings := by
  simp [State.retireWaitingWhere_eq, State.settings]
@[simp] theorem State.stopLease_settings (t : TierNo) : (s.stopLease t).settings = s.settings := s.setTier_settings t rfl
@[simp] theorem State.placeAt_settings (t : TierNo) (p : Pose) (a : Arc) : (s.placeAt t p a).settings = s.settings :=
  s.setTier_settings t rfl
@[simp] theorem State.loadLease_settings (t : TierNo) : (s.loadLease t).settings = s.settings := s.setTier_settings t rfl
@[simp] theorem State.reloadLease_settings (t : TierNo) : (s.reloadLease t).settings = s.settings :=
  s.setTier_settings t rfl
@[simp] theorem State.track_settings (t : TierNo) (p : Pose) : (s.track t p).settings = s.settings :=
  s.setTier_settings t rfl
@[simp] theorem State.clearFaultKind_settings (t : TierNo) : (s.clearFaultKind t).settings = s.settings :=
  s.setTier_settings t rfl

/-- With RESETN low the state stays, with RESETN high the event acts (R143). -/
theorem State.powered_cases {s : State} {P : State → Prop} {f : State → State} (idle : P s) (acts : P (f s)) :
    P (s.powered f) := by
  unfold State.powered
  split_ifs
  · exact idle
  · exact acts

/-- A command that is not due leaves the state; one that is due takes the oldest entry, acts, and replies (R166, R168). -/
theorem State.executeIf_cases {s : State} {P : State → Prop} {due : CpEntry → Bool}
    {run : CpEntry → State → State × Answer} (idle : P s)
    (acts : ∀ e rest, P (State.afterCommand e (run e { s with cpFifo := rest }))) : P (s.executeIf due run) := by
  unfold State.executeIf
  split
  · exact idle
  · split_ifs
    · exact acts _ _
    · exact idle

theorem State.powered_settings {f : State → State} (h : ∀ s, (f s).settings = s.settings) :
    (s.powered f).settings = s.settings :=
  State.powered_cases (P := fun u => u.settings = s.settings) rfl (h s)

theorem State.foldl_settings {α : Type} {f : State → α → State} (h : ∀ s a, (f s a).settings = s.settings)
    (l : List α) : (l.foldl f s).settings = s.settings := by
  induction l generalizing s with
  | nil => rfl
  | cons a l ih => rw [List.foldl_cons, ih, h]

/-! ### Claims -/

@[simp] theorem State.unbind_settings (i : RecNo) (h : Handle) (r : Result) : (s.unbind i h r).settings = s.settings :=
  State.setTier_settings { (s.setRecord i none).unmark i with waitList := s.waitList.filter fun j => j != i } h.tier rfl

@[simp] theorem State.retireWaiting_settings (i : RecNo) (r : Result) : (s.retireWaiting i r).settings = s.settings := by
  unfold State.retireWaiting
  split
  · rfl
  · split_ifs <;> simp

@[simp] theorem State.retireActive_settings (i : RecNo) (h : Handle) (g : Grant) (r : Result) (p : Pose) (a : Arc) :
    (s.retireActive i h g r p a).settings = s.settings := by
  simp [State.retireActive]

@[simp] theorem State.stopRecord_settings (i : RecNo) : (s.stopRecord i).settings = s.settings := by
  unfold State.stopRecord
  split
  · rfl
  · split <;> simp

@[simp] theorem State.freezeWith_settings (i : RecNo) (c : Claim) (g : Grant) :
    (s.freezeWith i c g).settings = s.settings := by
  simp [State.freezeWith]

@[simp] theorem State.freezeHead_settings (t : TierNo) : (s.freezeHead t).settings = s.settings := by
  unfold State.freezeHead
  split
  · rfl
  · split <;> simp

@[simp] theorem State.hazardStopAround_settings (t : TierNo) (space : Option Arc) :
    (s.hazardStopAround t space).settings = s.settings := by
  cases space <;> simp [State.hazardStopAround, State.hazardStop]

@[simp] theorem State.hardFaultEvent_settings (t : TierNo) (k : HardKind) :
    (s.hardFaultEvent t k).settings = s.settings := by
  have faulted := s.setTier_settings t (r := { s.tier t with fault := some k }) rfl
  unfold State.hardFaultEvent
  dsimp only
  split_ifs <;> simp [faulted]

@[simp] theorem State.hardFault_settings (t : TierNo) (k : HardKind) (slot : Option SlotNo) (p : Pose) :
    (s.hardFault t k slot p).settings = s.settings := by
  unfold State.hardFault
  split_ifs <;> simp

/-! ### Lines and time -/

@[simp] theorem State.enterHalt_settings : s.enterHalt.settings = s.settings := by simp [State.enterHalt]

@[simp] theorem State.stopnAssert_settings : s.stopnAssert.settings = s.settings := by
  unfold State.stopnAssert
  split <;> simp

@[simp] theorem State.lowerLeases_settings : s.lowerLeases.settings = s.settings :=
  State.settings_eq_of_cfg fun t => by
    have lowered : s.lowerLeases.tier t = (s.tier t).tick := by simp [State.lowerLeases, State.tier]
    rw [lowered, Tier.tick]
    split_ifs <;> rfl

@[simp] theorem State.expire_settings (t : TierNo) : (s.expire t).settings = s.settings := by simp [State.expire]

theorem State.expireIfDue_settings (t : TierNo) : (s.expireIfDue t).settings = s.settings := by
  unfold State.expireIfDue
  split_ifs <;> simp

theorem State.tickAll_settings (order : List TierNo) : (s.tickAll order).settings = s.settings := by
  simp [State.tickAll, State.foldl_settings _ State.expireIfDue_settings]

theorem State.leaseExpiry_settings (t : TierNo) : (s.leaseExpiry t).settings = s.settings := by
  have lowered := s.setTier_settings t (r := { s.tier t with lease := 0 }) rfl
  unfold State.leaseExpiry
  split_ifs <;> simp [lowered]

/-! ### The ports -/

theorem State.mpAccept_settings (c : MpClass) (h : Handle) (d : List Byte) :
    (s.mpAccept c h d).settings = s.settings := by
  unfold State.mpAccept
  split_ifs <;> simp

@[simp] theorem State.mpReceived_settings : s.mpReceived.settings = s.settings := rfl

theorem State.mpArrival_settings (f : Frame) : (s.mpArrival f).settings = s.settings := by
  unfold State.mpArrival State.mpIgnore
  split_ifs
  · rfl
  · rfl
  all_goals split <;> simp [State.mpAccept_settings]

theorem State.discardDisabled_settings : s.discardDisabled.settings = s.settings := by
  unfold State.discardDisabled
  split
  · rfl
  · split_ifs <;> rfl

theorem State.noticeStart_settings : s.noticeStart.settings = s.settings := by
  unfold State.noticeStart
  split_ifs
  · rfl
  · split <;> rfl

theorem State.noticeComplete_settings : s.noticeComplete.settings = s.settings := by
  unfold State.noticeComplete
  split <;> rfl

theorem State.noticeFail_settings (why : TxFailure) : (s.noticeFail why).settings = s.settings := by
  unfold State.noticeFail
  split <;> rfl

theorem State.cpAccept_settings (d : List Byte) : (s.cpAccept d).settings = s.settings := by
  unfold State.cpAccept
  split_ifs <;> simp

theorem State.cpArrival_settings (f : Frame) : (s.cpArrival f).settings = s.settings := by
  unfold State.cpArrival
  dsimp only
  split_ifs <;> simp [State.cpAccept_settings]

theorem State.replyStart_settings : s.replyStart.settings = s.settings := by
  unfold State.replyStart
  split_ifs
  · rfl
  · split <;> rfl

theorem State.replyComplete_settings : s.replyComplete.settings = s.settings := by
  unfold State.replyComplete
  split <;> rfl

theorem State.replyFail_settings (why : TxFailure) : (s.replyFail why).settings = s.settings := by
  unfold State.replyFail
  split <;> rfl

/-! ### CLAIM, CANCEL and visits -/

theorem State.acceptClaim_settings (h : Handle) (m : Motion) (declared : Nat) (i : RecNo) :
    (s.acceptClaim h m declared i).settings = s.settings := by
  simp only [State.acceptClaim, State.rescan_settings, State.post_settings]
  exact State.setTier_settings _ h.tier rfl

theorem State.checkClaim_settings (h : Handle) (m : Motion) (declared : Nat) :
    (s.checkClaim h m declared).settings = s.settings := by
  unfold State.checkClaim State.refuseClaim
  dsimp only
  split_ifs
  · simp
  · simp
  · split
    · simp
    · exact s.acceptClaim_settings h m declared _

theorem State.arriveClaim_settings (h : Handle) (d : List Byte) : (s.arriveClaim h d).settings = s.settings := by
  unfold State.arriveClaim State.refuseClaim
  split
  · simp
  split
  · simp
  split
  · simp
  split
  · simp
  split
  · simp
  · exact s.checkClaim_settings h _ _

theorem State.takeClaim_settings : s.takeClaim.settings = s.settings := by
  unfold State.takeClaim
  split
  · split_ifs <;> simp [State.arriveClaim_settings]
  · rfl

theorem State.cancelHandle_settings (h : Handle) : (s.cancelHandle h).settings = s.settings := by
  unfold State.cancelHandle
  split
  · simp
  · split <;> simp

theorem State.takeCancel_settings : s.takeCancel.settings = s.settings := by
  unfold State.takeCancel
  split
  · split_ifs <;> simp [State.cancelHandle_settings]
  · rfl

@[simp] theorem State.grant_settings (i : RecNo) (c : Claim) (g : Grant) : (s.grant i c g).settings = s.settings := by
  simp only [State.grant, State.post_settings, State.setPermit_settings, State.loadLease_settings,
    State.drawPools_settings]
  rfl

theorem State.evaluate_settings (i : RecNo) (c : Claim) : (s.evaluate i c).settings = s.settings := by
  unfold State.evaluate State.decideClaim
  dsimp only
  split_ifs <;> simp

theorem State.visitRecord_settings (i : RecNo) : (s.visitRecord i).settings = s.settings := by
  unfold State.visitRecord
  split
  · simp
  · split_ifs <;> simp [State.evaluate_settings]

theorem State.visit_settings : s.visit.settings = s.settings := by
  unfold State.visit
  split_ifs
  · rfl
  · simp
  · split <;> simp [State.visitRecord_settings]

/-! ### REPORT and RELEASE -/

@[simp] theorem State.noteClamp_settings (t : TierNo) (slot : Option SlotNo) (raw : Nat) (p : Pose) :
    (s.noteClamp t slot raw p).settings = s.settings := by
  unfold State.noteClamp
  split_ifs <;> simp

@[simp] theorem State.noteSequence_settings (t : TierNo) (seq : Nat) (p : Pose) :
    (s.noteSequence t seq p).settings = s.settings := by
  unfold State.noteSequence
  refine (State.setTier_settings _ t ?_).trans ?_
  · rfl
  · split_ifs <;> simp

@[simp] theorem State.trimClaim_settings (i : RecNo) (c : Claim) (g : Grant) (p : Nat) (phase : Grant → Phase) :
    (s.trimClaim i c g p phase).settings = s.settings := by
  unfold State.trimClaim
  dsimp only
  split_ifs <;> simp

@[simp] theorem State.retireStopped_settings (i : RecNo) (h : Handle) (g : Grant) (p : Pose) :
    (s.retireStopped i h g p).settings = s.settings := by
  simp [State.retireStopped]

theorem State.containedReport_settings (i : RecNo) (c : Claim) (p : Pose) (moving : Bool) :
    (s.containedReport i c p moving).settings = s.settings := by
  unfold State.containedReport
  split
  · simp
  · split_ifs <;> simp
  · rfl
  · rfl

theorem State.superviseMoving_settings (t : TierNo) (i : RecNo) (c : Claim) (g : Grant) (p : Pose) (moving : Bool) :
    (s.superviseMoving t i c g p moving).settings = s.settings := by
  unfold State.superviseMoving
  dsimp only
  split_ifs <;> simp [State.containedReport_settings]

theorem State.superviseIdle_settings (t : TierNo) (p : Pose) (moving : Bool) :
    (s.superviseIdle t p moving).settings = s.settings := by
  unfold State.superviseIdle
  split_ifs <;> simp

theorem State.supervise_settings (t : TierNo) (p : Pose) (moving drive : Bool) :
    (s.supervise t p moving drive).settings = s.settings := by
  unfold State.supervise
  split_ifs
  · simp
  · split
    · exact s.superviseIdle_settings t p moving
    iterate 2
      · split
        · rfl
        · split
          · rfl
          · exact s.superviseMoving_settings t _ _ _ p moving
    all_goals rfl

theorem State.handleReport_settings (t : TierNo) (p : Pose) (moving drive : Bool) :
    (s.handleReport t p moving drive).settings = s.settings := by
  unfold State.handleReport
  split_ifs
  · rfl
  · exact s.supervise_settings t p moving drive

theorem State.arriveReport_settings (t : TierNo) (d : List Byte) : (s.arriveReport t d).settings = s.settings := by
  unfold State.arriveReport State.acceptReport
  split_ifs
  · rfl
  · simp [State.handleReport_settings]

theorem State.takeReport_settings : s.takeReport.settings = s.settings := by
  unfold State.takeReport
  split
  · split_ifs <;> simp [State.arriveReport_settings]
  · rfl

theorem State.releaseGranted_settings (i : RecNo) (c : Claim) (g : Grant) (p : Pose) :
    (s.releaseGranted i c g p).settings = s.settings := by
  unfold State.releaseGranted
  dsimp only
  split_ifs <;> simp

theorem State.releaseChecked_settings (c : Claim) (g : Grant) (d : List Byte) {done : State → Pose → State}
    (h : ∀ s p, (done s p).settings = s.settings) : (s.releaseChecked c g d done).settings = s.settings := by
  unfold State.releaseChecked
  dsimp only
  split_ifs <;> simp [h]

theorem State.arriveRelease_settings (h : Handle) (d : List Byte) : (s.arriveRelease h d).settings = s.settings := by
  unfold State.arriveRelease
  split_ifs
  · split
    · simp
    · split
      · exact s.releaseChecked_settings _ _ d fun s p => s.releaseGranted_settings _ _ _ p
      · exact s.releaseChecked_settings _ _ d fun s p => s.retireStopped_settings _ _ _ p
      · simp
      · simp
  · simp

theorem State.takeRelease_settings : s.takeRelease.settings = s.settings := by
  unfold State.takeRelease
  split
  · split_ifs <;> simp [State.arriveRelease_settings]
  · rfl

/-! ### Console commands that write no setting -/

theorem State.executeIf_settings (due : CpEntry → Bool) {run : CpEntry → State → State × Answer}
    (h : ∀ s e, (run e s).1.settings = s.settings) : (s.executeIf due run).settings = s.settings :=
  State.executeIf_cases (P := fun u => u.settings = s.settings) rfl fun e rest => h { s with cpFifo := rest } e

theorem State.execute_settings (code : Nat) {run : CpEntry → State → State × Answer}
    (h : ∀ s e, (run e s).1.settings = s.settings) :
    (s.powered fun s => s.execute code run).settings = s.settings :=
  s.powered_settings fun s => s.executeIf_settings _ h

@[simp] theorem State.enterRun_settings : s.enterRun.settings = s.settings := by simp [State.enterRun]

@[simp] theorem State.enterConfig_settings : s.enterConfig.settings = s.settings := by simp [State.enterConfig]

theorem State.setModeRun_settings : s.setModeRun.1.settings = s.settings := by
  unfold State.setModeRun
  split
  · rfl
  · rfl
  · split
    · rfl
    · split <;> simp

theorem State.setModeConfig_settings : s.setModeConfig.1.settings = s.settings := by
  unfold State.setModeConfig
  split
  · rfl
  all_goals split <;> simp

theorem doSetMode_settings (e : CpEntry) : (doSetMode e s).1.settings = s.settings := by
  unfold doSetMode
  split_ifs
  · exact s.setModeRun_settings
  · exact s.setModeConfig_settings
  · rfl

theorem doHalt_settings (e : CpEntry) : (doHalt e s).1.settings = s.settings := by
  unfold doHalt
  split <;> simp

theorem doResume_settings (e : CpEntry) : (doResume e s).1.settings = s.settings := by
  unfold doResume
  split
  · rfl
  · rfl
  · split_ifs <;> simp

theorem doSoftReset_settings (e : CpEntry) : (doSoftReset e s).1.settings = s.settings :=
  State.settings_eq_of_cfg fun t => by
    simp [doSoftReset, State.softReset, State.tier, Tier.softReset]

theorem State.placeAtFootprint_settings (t : TierNo) (p : Pose) : (s.placeAtFootprint t p).settings = s.settings :=
  s.placeAt_settings t p _

theorem doSetRest_settings (e : CpEntry) : (doSetRest e s).1.settings = s.settings := by
  unfold doSetRest
  split
  · rfl
  · split <;> simp [State.placeAtFootprint_settings]

theorem doAdopt_settings (e : CpEntry) : (doAdopt e s).1.settings = s.settings := by
  unfold doAdopt
  split_ifs
  · rfl
  · split
    · rfl
    · split_ifs <;> simp [State.placeAtFootprint_settings]

theorem State.revoke_settings {s u : State} {h : Handle} {st : ClaimState} (e : s.revoke h = some (u, st)) :
    u.settings = s.settings := by
  unfold State.revoke at e
  split at e
  · cases e
  · split at e <;> cases e <;> simp

theorem doCancelClaim_settings (e : CpEntry) : (doCancelClaim e s).1.settings = s.settings := by
  unfold doCancelClaim
  split
  · rfl
  · rfl
  · split
    · rfl
    · next h => exact State.revoke_settings h

theorem State.clearTier_settings (t : TierNo) (a : Arc) : (s.clearTier t a).settings = s.settings := by
  unfold State.clearTier State.placeCleared
  split <;> simp

theorem doClearTier_settings (e : CpEntry) : (doClearTier e s).1.settings = s.settings := by
  unfold doClearTier
  split_ifs
  · rfl
  · split
    · rfl
    · split_ifs
      · rfl
      · split <;> simp [State.clearTier_settings]

theorem doSetCursor_settings (e : CpEntry) : (doSetCursor e s).1.settings = s.settings := by
  unfold doSetCursor
  split
  · rfl
  · dsimp only
    split_ifs <;> rfl

theorem doReadNext_settings (e : CpEntry) : (doReadNext e s).1.settings = s.settings := by
  unfold doReadNext
  split <;> rfl

theorem doReadTier_settings (e : CpEntry) : (doReadTier e s).1.settings = s.settings := by
  unfold doReadTier
  split
  · rfl
  · split <;> rfl

theorem doReadGlobal_settings (e : CpEntry) : (doReadGlobal e s).1.settings = s.settings := by
  unfold doReadGlobal
  split <;> rfl

theorem doReadStatus_settings (e : CpEntry) : (doReadStatus e s).1.settings = s.settings := rfl
theorem doSetMask_settings (e : CpEntry) : (doSetMask e s).1.settings = s.settings := rfl
theorem doReadFault_settings (e : CpEntry) : (doReadFault e s).1.settings = s.settings := rfl
theorem doClearFault_settings (e : CpEntry) : (doClearFault e s).1.settings = s.settings := rfl

end Frames

/-! ### Which events write settings -/

/-- The events that write settings: both of RESETN, and the console's writes of configurations, global parameters,
ceilings, capacities and holds (R5, R20, R23, R86, R92, R143). -/
def writesSettings : Instr → Bool
  | .powerOnReset _ _ | .resetnRisingEdge _ _ | .writeTier | .writeGlobal | .writeCeiling | .setPool | .placeHold
  | .liftHold => true
  | _ => false

theorem settings_of_next {s v u : State} (h : (Host.Outcome.next v : Host.Outcome State Fault Refusal) = .next u)
    (e : v.settings = s.settings) : u.settings = s.settings :=
  Host.Outcome.next.inj h ▸ e

/-- Every other event leaves the settings as they were. -/
theorem exec_settings {i : Instr} {s u : State} (hi : writesSettings i = false) (h : exec i s = .next u) :
    u.settings = s.settings := by
  cases i with
  | powerOnReset | resetnRisingEdge | writeTier | writeGlobal | writeCeiling | setPool | placeHold | liftHold => cases hi
  | stopnAssertion => exact settings_of_next h (s.powered_settings State.stopnAssert_settings)
  | stopnRelease => exact settings_of_next h (s.powered_settings fun _ => rfl)
  | tick order => exact settings_of_next h (s.powered_settings fun s => s.tickAll_settings order)
  | leaseExpiry t => exact settings_of_next h (s.powered_settings fun s => s.leaseExpiry_settings t)
  | mpFrameArrival f => exact settings_of_next h (s.powered_settings fun s => s.mpArrival_settings f)
  | mpReceiveError | busOffRecovery | cpReceiveError | cpBusOffRecovery =>
    exact settings_of_next h (s.powered_settings fun _ => rfl)
  | disabledEntryDiscard => exact settings_of_next h (s.powered_settings State.discardDisabled_settings)
  | claim => exact settings_of_next h (s.powered_settings State.takeClaim_settings)
  | cancel => exact settings_of_next h (s.powered_settings State.takeCancel_settings)
  | report => exact settings_of_next h (s.powered_settings State.takeReport_settings)
  | release => exact settings_of_next h (s.powered_settings State.takeRelease_settings)
  | visit => exact settings_of_next h (s.powered_settings State.visit_settings)
  | noticeStart => exact settings_of_next h (s.powered_settings State.noticeStart_settings)
  | noticeCompletion => exact settings_of_next h (s.powered_settings State.noticeComplete_settings)
  | noticeFailure why => exact settings_of_next h (s.powered_settings fun s => s.noticeFail_settings why)
  | cpCommandArrival f => exact settings_of_next h (s.powered_settings fun s => s.cpArrival_settings f)
  | replyStart => exact settings_of_next h (s.powered_settings State.replyStart_settings)
  | replyCompletion => exact settings_of_next h (s.powered_settings State.replyComplete_settings)
  | replyFailure why => exact settings_of_next h (s.powered_settings fun s => s.replyFail_settings why)
  | unknownCommand =>
    exact settings_of_next h (s.powered_settings fun s => s.executeIf_settings _ fun _ _ => rfl)
  | readStatus => exact settings_of_next h (s.execute_settings _ doReadStatus_settings)
  | setMask => exact settings_of_next h (s.execute_settings _ doSetMask_settings)
  | readFault => exact settings_of_next h (s.execute_settings _ doReadFault_settings)
  | clearFault => exact settings_of_next h (s.execute_settings _ doClearFault_settings)
  | setMode => exact settings_of_next h (s.execute_settings _ doSetMode_settings)
  | halt => exact settings_of_next h (s.execute_settings _ doHalt_settings)
  | resume => exact settings_of_next h (s.execute_settings _ doResume_settings)
  | softReset => exact settings_of_next h (s.execute_settings _ doSoftReset_settings)
  | readTier => exact settings_of_next h (s.execute_settings _ doReadTier_settings)
  | setRest => exact settings_of_next h (s.execute_settings _ doSetRest_settings)
  | adopt => exact settings_of_next h (s.execute_settings _ doAdopt_settings)
  | readGlobal => exact settings_of_next h (s.execute_settings _ doReadGlobal_settings)
  | cancelClaim => exact settings_of_next h (s.execute_settings _ doCancelClaim_settings)
  | clearTier => exact settings_of_next h (s.execute_settings _ doClearTier_settings)
  | setCursor => exact settings_of_next h (s.execute_settings _ doSetCursor_settings)
  | readNext => exact settings_of_next h (s.execute_settings _ doReadNext_settings)

/-! ### The events that write settings keep them in range -/

theorem saturate_bounds {lo hi : Nat} (h : lo ≤ hi) (v : Nat) : lo ≤ saturate lo hi v ∧ saturate lo hi v ≤ hi := by
  unfold saturate
  omega

theorem CfgField.lower_le_upper (f : CfgField) : f.lower ≤ f.upper := by
  cases f <;> decide

theorem GlobalParam.lower_le_upper (g : Globals) (p : GlobalParam) : p.lower ≤ g.upper p := by
  cases p <;> simp [GlobalParam.lower, Globals.upper]

/-- A configuration field written within its limits (R20). -/
theorem TierConfig.InRange.write {c : TierConfig} (h : c.InRange) {f : CfgField} {v : Nat} (lo : f.lower ≤ v)
    (hi : v ≤ f.upper) : (c.write f v).InRange := by
  cases f with
  | halfWidth => exact { h with halfWidth := ⟨lo, hi⟩ }
  | wing => exact { h with wing := hi }
  | fold => exact { h with fold := hi }
  | slewDemand => exact { h with slewDemand := hi }
  | rakeDemand => exact { h with rakeDemand := hi }
  | bestPriority => exact { h with bestPriority := hi }
  | origin => exact { h with origin := hi }
  | mult => exact { h with mult := ⟨lo, hi⟩ }
  | enabled | reverse => exact { h with }

/-- A global parameter written within its limits; a write of G takes Lc down with it (R23, R24). -/
theorem Globals.InRange.write {g : Globals} (h : g.InRange) {p : GlobalParam} {v : Nat} (lo : p.lower ≤ v)
    (hi : v ≤ g.upper p) : (g.write p v).InRange := by
  cases p with
  | margin => exact { h with margin := hi, creepLimit := Nat.min_le_right _ _ }
  | backoff => exact { h with backoff := hi }
  | arrivalTol => exact { h with arrivalTol := hi }
  | rakeTol => exact { h with rakeTol := hi }
  | creepLimit => exact { h with creepLimit := hi }
  | stopMargin => exact { h with stopMargin := hi }
  | leasePeriod => exact { h with leasePeriod := ⟨lo, hi⟩ }

theorem writeCeilings_getElem (old : Vector Nat 256) (first : Nat) (values : List Nat) (k : Fin 256) :
    (writeCeilings old first values)[k] =
      if first ≤ k.val ∧ k.val < first + values.length then values.getD (k.val - first) 0 else old[k] :=
  Vector.getElem_ofFn _

section Writers
variable {s : State} (h : s.SettingsInRange)
include h

theorem State.SettingsInRange.writeCfg (t : TierNo) {f : CfgField} {v : Nat} (lo : f.lower ≤ v) (hi : v ≤ f.upper) :
    (s.writeCfg t f v).SettingsInRange where
  configs u := by
    rw [State.writeCfg, State.setTier_tier]
    split_ifs
    · exact (h.configs t).write lo hi
    · exact h.configs u
  globals := h.globals
  ceilings := h.ceilings
  capacities := h.capacities
  holds := h.holds

theorem State.SettingsInRange.setHold (k : HoldNo) {o : Option Arc}
    (ho : ∀ a, o = some a → a.start ≤ 65535 ∧ 1 ≤ a.length ∧ a.length ≤ 65535) : (s.setHold k o).SettingsInRange where
  configs := h.configs
  globals := h.globals
  ceilings := h.ceilings
  capacities := h.capacities
  holds j a hj := by
    rw [State.setHold_hold] at hj
    split_ifs at hj
    · exact ho a hj
    · exact h.holds j a hj

theorem State.SettingsInRange.setCapacity (p : PoolId) {v : Nat} (hv : v ≤ 4095) :
    (s.setCapacity p v).SettingsInRange := by
  have written : (s.setPool p { s.pool p with capacity := v }).SettingsInRange := by
    cases p with
    | hyd => exact { h with capacities := ⟨hv, h.capacities.2⟩ }
    | slew => exact { h with capacities := ⟨h.capacities.1, hv⟩ }
  unfold State.setCapacity
  dsimp only
  split_ifs <;> exact written.of_settings_eq (by simp)

theorem State.SettingsInRange.withCeilings {v : Vector Nat 256} (hv : ∀ k : Fin 256, v[k] ≤ 450) :
    { s with ceilings := v }.SettingsInRange :=
  { h with ceilings := hv }

theorem doWriteTier_inRange (e : CpEntry) : (doWriteTier e s).1.SettingsInRange := by
  unfold doWriteTier
  split
  · exact h
  split
  · exact h
  · exact h
  · next t f _ _ =>
    dsimp only
    split_ifs
    · exact h
    · obtain ⟨lo, hi⟩ := saturate_bounds f.lower_le_upper (word32At e.data 4)
      exact (h.writeCfg t lo hi).of_settings_eq rfl

theorem doWriteGlobal_inRange (e : CpEntry) : (doWriteGlobal e s).1.SettingsInRange := by
  unfold doWriteGlobal
  split
  · exact h
  split
  · exact h
  · next p _ =>
    obtain ⟨lo, hi⟩ := saturate_bounds (p.lower_le_upper s.globals) (word32At e.data 3)
    exact { h with globals := h.globals.write lo hi }

theorem doWriteCeiling_inRange (e : CpEntry) : (doWriteCeiling e s).1.SettingsInRange := by
  unfold doWriteCeiling
  dsimp only
  split_ifs
  · exact h
  · exact h
  · exact h
  all_goals
    refine h.withCeilings fun k => ?_
    rw [writeCeilings_getElem]
    split_ifs with inRun
    · rw [List.getD_eq_getElem _ _ (by omega), List.getElem_map]
      exact Nat.min_le_right _ _
    · exact h.ceilings k

theorem doSetPool_inRange (e : CpEntry) : (doSetPool e s).1.SettingsInRange := by
  unfold doSetPool
  split
  · exact h
  · exact h.setCapacity _ (Nat.min_le_right _ _)

theorem State.SettingsInRange.placeHold (k : HoldNo) {a : Arc}
    (ha : a.start ≤ 65535 ∧ 1 ≤ a.length ∧ a.length ≤ 65535) : (s.placeHold k a).SettingsInRange := by
  unfold State.placeHold
  refine (h.setHold k (o := some a) fun b hb => ?_).of_settings_eq (State.stopWhere_settings _ _)
  exact Option.some.inj hb ▸ ha

theorem doPlaceHold_inRange (e : CpEntry) : (doPlaceHold e s).1.SettingsInRange := by
  unfold doPlaceHold
  split
  · exact h
  · next k _ =>
    dsimp only
    refine h.placeHold k ?_
    dsimp only
    omega

theorem doLiftHold_inRange (e : CpEntry) : (doLiftHold e s).1.SettingsInRange := by
  unfold doLiftHold
  split
  · exact h
  · next k _ =>
    split_ifs
    · exact h
    · exact (h.setHold k (by simp)).of_settings_eq (State.rescan_settings _)

/-- A console command that keeps the settings in range, at whatever moment its event falls. -/
theorem execute_inRange (code : Nat) {run : CpEntry → State → State × Answer}
    (hrun : ∀ {s}, s.SettingsInRange → ∀ e, (run e s).1.SettingsInRange) :
    (s.powered fun s => s.execute code run).SettingsInRange :=
  State.powered_cases h <| State.executeIf_cases h fun e rest =>
    (hrun (h.of_settings_eq (s.withCpFifo_settings rest)) e).of_settings_eq (State.reply_settings _ _)

end Writers

theorem reset_settingsInRange : State.reset.SettingsInRange where
  configs t := by
    simp only [State.tier, State.reset, Fin.getElem_fin, Vector.getElem_replicate]
    constructor <;> decide
  globals := by constructor <;> decide
  ceilings k := by simp [State.reset]
  capacities := by decide
  holds k a hk := by simp [State.hold, State.reset] at hk

theorem inRange_of_next {v u : State} (h : (Host.Outcome.next v : Host.Outcome State Fault Refusal) = .next u)
    (hv : v.SettingsInRange) : u.SettingsInRange :=
  Host.Outcome.next.inj h ▸ hv

theorem exec_keeps_settingsInRange {i : Instr} {s u : State} (h : s.SettingsInRange) (hu : exec i s = .next u) :
    u.SettingsInRange := by
  cases i with
  | powerOnReset cause low =>
    refine inRange_of_next hu (reset_settingsInRange.of_settings_eq ?_)
    cases cause <;> rfl
  | resetnRisingEdge straps low => exact inRange_of_next hu (reset_settingsInRange.of_settings_eq rfl)
  | writeTier => exact inRange_of_next hu (execute_inRange h _ doWriteTier_inRange)
  | writeGlobal => exact inRange_of_next hu (execute_inRange h _ doWriteGlobal_inRange)
  | writeCeiling => exact inRange_of_next hu (execute_inRange h _ doWriteCeiling_inRange)
  | setPool => exact inRange_of_next hu (execute_inRange h _ doSetPool_inRange)
  | placeHold => exact inRange_of_next hu (execute_inRange h _ doPlaceHold_inRange)
  | liftHold => exact inRange_of_next hu (execute_inRange h _ doLiftHold_inRange)
  | _ => exact h.of_settings_eq (exec_settings rfl hu)

/-- Settles O58: an event that writes no setting leaves them all, and each write is saturated to its range first. -/
theorem stepKeepsSettingsInRange : Obligations.StepKeepsSettingsInRange := by
  intro s u h hu
  unfold step at hu
  split at hu
  · exact Host.Outcome.next.inj hu ▸ h
  · next rest _ => exact exec_keeps_settingsInRange (h.of_settings_eq (s.withPending_settings rest)) hu

end Sys2Proof.Machine
end

section
/-! SUPPORT. Chapter 1: the rounded-up wing widening, footprints, arcs within arcs, and trims. -/

namespace Sys2Proof.Machine

/-! ### Wing widening and footprint half-width (R10, R11) -/

/-- A quotient rounded up, by the inequalities that define it. -/
theorem roundedUp_bounds (n : Nat) {d : Nat} (hd : 0 < d) :
    n ≤ (n + d - 1) / d * d ∧ (n + d - 1) / d * d < n + d := by
  have parts := Nat.div_add_mod' (n + d - 1) d
  have rest := Nat.mod_lt (n + d - 1) hd
  omega

/-- Up to the fold point the wings add nothing (R10). -/
theorem wingWidening_of_le {c : TierConfig} {r : Nat} (h : r ≤ c.fold) : wingWidening c r = 0 :=
  if_pos h

/-- Above the fold point the widening is the quotient rounded up (R10). -/
theorem wingWidening_of_lt {c : TierConfig} {r : Nat} (h : c.fold < r) :
    wingWidening c r = (c.wing * (r - c.fold) + (450 - c.fold) - 1) / (450 - c.fold) :=
  if_neg (Nat.not_le.mpr h)

theorem wingWidening_mono (c : TierConfig) {r r' : Nat} (h : r ≤ r') : wingWidening c r ≤ wingWidening c r' := by
  by_cases hr : r ≤ c.fold
  · simp [wingWidening_of_le hr]
  · have wider : c.wing * (r - c.fold) ≤ c.wing * (r' - c.fold) := Nat.mul_le_mul_left _ (by omega)
    rw [wingWidening_of_lt (by omega), wingWidening_of_lt (by omega)]
    exact Nat.div_le_div_right (by omega)

/-- At rake 450 the widening is the wing width X (R10). -/
theorem wingWidening_top {c : TierConfig} (h : c.fold < 450) : wingWidening c 450 = c.wing := by
  rw [wingWidening_of_lt h, Nat.add_sub_assoc (by omega), Nat.mul_comm, Nat.mul_add_div (by omega),
    Nat.div_eq_of_lt (by omega), Nat.add_zero]

theorem halfWidthAt_mono (c : TierConfig) (g : Globals) {r r' : Nat} (h : r ≤ r') :
    halfWidthAt c g r ≤ halfWidthAt c g r' :=
  Nat.add_le_add_left (wingWidening_mono c h) _

/-- The half-width is at most 8191 + 2047 + 4095 (R11). -/
theorem halfWidthAt_bounds {c : TierConfig} {g : Globals} (hc : c.InRange) (hg : g.InRange) {r : Nat} (h : r ≤ 450) :
    1 ≤ halfWidthAt c g r ∧ halfWidthAt c g r ≤ 14333 := by
  obtain ⟨halfWidth, wing, fold, -⟩ := hc
  have widest := wingWidening_mono c h
  rw [wingWidening_top (by omega)] at widest
  have margin := hg.margin
  unfold halfWidthAt
  omega

/-- Settles O50: the bounds of the rounded-up quotient, and monotony up to its value X at rake 450. -/
theorem footprintWidens : Obligations.FootprintWidens := by
  intro c g hc hg
  have fold : c.fold < 450 := Nat.lt_succ_of_le hc.fold
  refine ⟨fun r h => wingWidening_of_le h, fun r h _ => ?_, wingWidening_top fold,
    fun r r' h _ => halfWidthAt_mono c g h, fun r h => halfWidthAt_bounds hc hg h⟩
  rw [wingWidening_of_lt h]
  exact roundedUp_bounds _ (by omega)

/-! ### Distances along the ring (R1) -/

theorem forward_self {a : Nat} (ha : a < 65536) : forward a a = 0 := by
  rw [forward_eq ha ha, if_pos (Nat.le_refl a), Nat.sub_self]

/-- From a point on the way from `a` to `b`, the rest of the way remains. -/
theorem forward_of_between {a b c : Nat} (ha : a < 65536) (hb : b < 65536) (hc : c < 65536)
    (h : forward a c ≤ forward a b) : forward c b = forward a b - forward a c := by
  rw [forward_eq ha hb, forward_eq ha hc] at *
  rw [forward_eq hc hb]
  split_ifs at * <;> omega

/-- The way from `b` to a point before the next `b` leads past `a`. -/
theorem forward_past {a b c : Nat} (ha : a < 65536) (hb : b < 65536) (hc : c < 65536)
    (h : forward a c < forward a b) : forward b c = forward b a + forward a c := by
  rw [forward_eq ha hb, forward_eq ha hc] at h
  rw [forward_eq hb hc, forward_eq hb ha, forward_eq ha hc]
  split_ifs at * <;> omega

/-- Going `x` further back shortens the way there by `x`, or leads once more around the ring. -/
theorem forward_ringSub_add {a p d x : Nat} (ha : a < 65536) (hp : p < 65536) (h : d + x < 65536) :
    forward a (ringSub p (d + x)) = if x ≤ forward a (ringSub p d) then forward a (ringSub p d) - x
      else forward a (ringSub p d) + 65536 - x := by
  rw [forward_eq ha (ringSub_lt _ _), forward_eq ha (ringSub_lt _ _), ringSub_eq hp h, ringSub_eq hp (by omega)]
  split_ifs <;> omega

/-- Going `x` further forward shortens the way that is left by `x`, or leads once more around the ring. -/
theorem forward_ringAdd_add {b p d x : Nat} (hb : b < 65536) (hp : p < 65536) (h : d + x < 65536) :
    forward (ringAdd p (d + x)) b = if x ≤ forward (ringAdd p d) b then forward (ringAdd p d) b - x
      else forward (ringAdd p d) b + 65536 - x := by
  rw [forward_eq (ringAdd_lt _ _) hb, forward_eq (ringAdd_lt _ _) hb, ringAdd_eq hp h, ringAdd_eq hp (by omega)]
  split_ifs <;> omega

/-- From a point on the way, what is left of `m` ends at the same position. -/
theorem ringAdd_of_forward {a b m : Nat} (ha : a < 65536) (hb : b < 65536) (hm : m < 65536) (h : forward a b ≤ m) :
    ringAdd b (m - forward a b) = ringAdd a m := by
  rw [forward_eq ha hb] at h ⊢
  rw [ringAdd_eq ha hm, ringAdd_eq hb (by omega)]
  split_ifs at * <;> omega

theorem ringAdd_ringSub_double {p d : Nat} (hp : p < 65536) (h : 2 * d < 65536) :
    ringAdd (ringSub p d) (2 * d) = ringAdd p d := by
  rw [ringAdd_eq (ringSub_lt _ _) h, ringSub_eq hp (by omega), ringAdd_eq hp (by omega)]
  split_ifs <;> omega

theorem forward_ringAdd_ringAdd {a i j : Nat} (ha : a < 65536) (hj : j < 65536) (h : i ≤ j) :
    forward (ringAdd a i) (ringAdd a j) = j - i := by
  rw [forward_eq (ringAdd_lt _ _) (ringAdd_lt _ _), ringAdd_eq ha hj, ringAdd_eq ha (by omega)]
  split_ifs <;> omega

/-- The way from the end of a stretch around `p` to the end of an arc that holds it. -/
theorem forward_ends {a p d m : Nat} (ha : a < 65536) (hp : p < 65536) (hm : m < 65536)
    (h : forward a (ringSub p d) + 2 * d ≤ m) :
    forward (ringAdd p d) (ringAdd a m) = m - (forward a (ringSub p d) + 2 * d) := by
  rw [← ringAdd_of_forward ha (ringSub_lt p d) hm (by omega), ← ringAdd_ringSub_double hp (by omega),
    forward_ringAdd_ringAdd (ringSub_lt p d) (by omega) (by omega)]
  omega

/-! ### Overlap and containment of arcs (R2, R3) -/

theorem Arc.InRange.start_lt {a : Arc} (h : a.InRange) : a.start < 65536 :=
  Nat.lt_succ_of_le h.1

theorem Arc.InRange.length_pos {a : Arc} (h : a.InRange) : 0 < a.length :=
  Nat.zero_lt_of_lt h.2.1

theorem Arc.InRange.length_lt {a : Arc} (h : a.InRange) : a.length < 65536 :=
  Nat.lt_of_le_of_lt h.2.2 (by decide)

theorem Arc.overlaps_comm (a b : Arc) : a.overlaps b = b.overlaps a :=
  Bool.or_comm _ _

/-- An arc within another is clear of what the other is clear of (R2, R3). -/
theorem Arc.overlaps_of_within {a b f : Arc} (ha : a.InRange) (hb : b.InRange) (hf : f.InRange)
    (hw : f.within a = true) (h : a.overlaps b = false) : f.overlaps b = false := by
  rw [Arc.within_iff] at hw
  rw [Arc.overlaps_eq_false] at h ⊢
  obtain ⟨before, after⟩ := h
  have nonempty := hf.length_pos
  rw [forward_of_between ha.start_lt hb.start_lt hf.start_lt (by omega),
    forward_past ha.start_lt hb.start_lt hf.start_lt (by omega)]
  omega

/-- Settles O52: overlap by its symmetric definition, containment by the distances along the ring. -/
theorem overlapOfArcs : Obligations.OverlapOfArcs :=
  fun a b _ ha hb hf => ⟨a.overlaps_comm b, Arc.overlaps_of_within ha hb hf⟩

/-! ### Trims (R17) -/

/-- What a trim of the arc `a` to `a'` keeps, with the footprint `f` in it (R3, R17). -/
structure Arc.TrimKeeps (a f a' : Arc) : Prop where
  shorter : a'.length ≤ a.length
  nonempty : 2 ≤ a'.length
  inside : a'.within a = true
  footprint : f.within a' = true

theorem Arc.trimKeeps_self {a f : Arc} (ha : a.InRange) (h : f.within a = true) : a.TrimKeeps f a where
  shorter := Nat.le_refl _
  nonempty := ha.2.1
  inside := by
    rw [Arc.within_iff, forward_self ha.start_lt, Nat.zero_add]
  footprint := h

section Trim
variable {g : Globals} {arc : Arc} {p h w : Nat} (hg : g.InRange) (harc : arc.InRange) (hp : p ≤ 65535) (hh : 1 ≤ h)
  (hhw : h ≤ w) (hw : w ≤ 14333) (hin : (⟨ringSub p h, 2 * h⟩ : Arc).within arc = true)
include hg harc hp hh hhw hw hin

/-- A clockwise trim moves the start forward by less than the way to the footprint, or not at all. -/
theorem trimCw_keeps : arc.TrimKeeps ⟨ringSub p h, 2 * h⟩ (trimCw g arc w p) ∧
    ringAdd (trimCw g arc w p).start (trimCw g arc w p).length = ringAdd arc.start arc.length := by
  have ha := harc.start_lt
  have hb := hg.backoff
  have fits := (Arc.within_iff _ _).mp hin
  have length := harc.length_lt
  obtain ⟨x, reach⟩ : ∃ x, w + g.backoff = h + x := ⟨w + g.backoff - h, by omega⟩
  have moved := forward_ringSub_add (d := h) (x := x) ha (p := p) (by omega) (by omega)
  unfold trimCw
  dsimp only at fits ⊢
  rw [reach]
  split_ifs with due
  · have short : forward arc.start (ringSub p (h + x)) + x = forward arc.start (ringSub p h) := by
      split_ifs at moved <;> omega
    have ended := ringAdd_of_forward (m := arc.length) ha (ringSub_lt p (h + x)) (by omega) (by omega)
    refine ⟨⟨Nat.sub_le _ _, ?_, ?_, ?_⟩, ended⟩
    · dsimp only; omega
    · rw [Arc.within_iff]; dsimp only; omega
    · rw [Arc.within_iff, forward_of_between ha (ringSub_lt _ _) (ringSub_lt _ _) (by omega)]
      dsimp only; omega
  · exact ⟨Arc.trimKeeps_self harc hin, rfl⟩

/-- A counter-clockwise trim moves the end back by less than the way to the footprint, or not at all. -/
theorem trimCcw_keeps : arc.TrimKeeps ⟨ringSub p h, 2 * h⟩ (trimCcw g arc w p) ∧
    (trimCcw g arc w p).start = arc.start := by
  have ha := harc.start_lt
  have hb := hg.backoff
  have fits := (Arc.within_iff _ _).mp hin
  have length := harc.length_lt
  obtain ⟨x, reach⟩ : ∃ x, w + g.backoff = h + x := ⟨w + g.backoff - h, by omega⟩
  have left := forward_ends (d := h) ha (p := p) (by omega) (by omega) fits
  have moved := forward_ringAdd_add (d := h) (x := x) (ringAdd_lt arc.start arc.length) (p := p) (by omega) (by omega)
  unfold trimCcw
  dsimp only at fits left ⊢
  rw [reach]
  split_ifs with due
  · have short : forward (ringAdd p (h + x)) (ringAdd arc.start arc.length) + x +
        (forward arc.start (ringSub p h) + 2 * h) = arc.length := by
      split_ifs at moved <;> omega
    refine ⟨⟨Nat.sub_le _ _, ?_, ?_, ?_⟩, rfl⟩
    · dsimp only; omega
    · rw [Arc.within_iff, forward_self ha]; dsimp only; omega
    · rw [Arc.within_iff]; dsimp only; omega
  · exact ⟨Arc.trimKeeps_self harc hin, rfl⟩

end Trim

/-- The end of the arc that a trim leaves where it was: the end of a clockwise claim's arc, the start of a
counter-clockwise one's, and the whole arc of a RAKE claim (R17). -/
def LeadingEndKept (m : Motion) (a a' : Arc) : Prop :=
  match m with
  | .slew .cw _ | .both .cw _ _ => ringAdd a'.start a'.length = ringAdd a.start a.length
  | .slew .ccw _ | .both .ccw _ _ => a'.start = a.start
  | .rake _ => a' = a

/-- A contained pose's footprint lies in the arc and is no wider than the sweep (R13, R16). -/
theorem contained_footprint {c : TierConfig} {g : Globals} {gr : Grant} {p : Pose} (h : contained c g gr p = true) :
    (footprint c g p).within gr.arc = true ∧ halfWidthAt c g p.rake ≤ sweepWidth c g gr.hi := by
  simp only [contained, rakeCheck, Bool.and_eq_true, decide_eq_true_eq] at h
  obtain ⟨⟨-, rake⟩, position⟩ := h
  exact ⟨position, halfWidthAt_mono c g (by omega)⟩

/-- A trim at a contained pose, whatever the claim's kind and direction (R17). -/
theorem trimmedArc_keeps {c : TierConfig} {g : Globals} (m : Motion) {gr : Grant} {p : Pose} (hc : c.InRange)
    (hg : g.InRange) (hgr : gr.InRange) (hp : p.InRange) (h : contained c g gr p = true) :
    gr.arc.TrimKeeps (footprint c g p) (trimmedArc c g m gr p.pos) ∧
      LeadingEndKept m gr.arc (trimmedArc c g m gr p.pos) := by
  obtain ⟨pos, rake⟩ := hp
  obtain ⟨inside, narrow⟩ := contained_footprint h
  obtain ⟨positive, -⟩ := halfWidthAt_bounds hc hg rake
  obtain ⟨-, wide⟩ := halfWidthAt_bounds hc hg (Nat.min_le_right (gr.hi + g.rakeTol) 450)
  cases m with
  | slew dir target =>
    cases dir with
    | cw => exact trimCw_keeps hg hgr.arc pos positive narrow wide inside
    | ccw => exact trimCcw_keeps hg hgr.arc pos positive narrow wide inside
  | rake target => exact ⟨Arc.trimKeeps_self hgr.arc inside, rfl⟩
  | both dir target targetRake =>
    cases dir with
    | cw => exact trimCw_keeps hg hgr.arc pos positive narrow wide inside
    | ccw => exact trimCcw_keeps hg hgr.arc pos positive narrow wide inside

/-- Settles O51: the trimmed end moves towards the footprint by less than the way to it. -/
theorem trimKeepsLeadingEndAndFootprint : Obligations.TrimKeepsLeadingEndAndFootprint := by
  intro c g m gr p hc hg hgr hp h
  obtain ⟨⟨shorter, nonempty, inside, footprint⟩, leading⟩ := trimmedArc_keeps m hc hg hgr hp h
  exact ⟨shorter, nonempty, inside, footprint, leading⟩

end Sys2Proof.Machine
end

section
/-! SUPPORT. WRITE_CEILING, sector by sector (R6). -/

namespace Sys2Proof.Machine

/-- The run is written with the saturated values, and the other sectors keep their entries (R6). -/
theorem writeCeilings_saturated (old : Vector Nat 256) (first : Nat) (d : List Byte) :
    writeCeilings old first ((ceilingValues d).map fun v => min v 450) =
      Vector.ofFn fun j : Fin 256 => if first ≤ j.val ∧ j.val < first + byteAt d 3 then
        min (word16At d (4 + 2 * (j.val - first))) 450 else old[j] := by
  refine Vector.ext fun i hi => ?_
  have written := writeCeilings_getElem old first ((ceilingValues d).map fun v => min v 450) ⟨i, hi⟩
  simp only [Fin.getElem_fin, ceilingValues, List.length_map, List.length_range] at written
  rw [ceilingValues, written, Vector.getElem_ofFn]
  split_ifs with inRun
  · rw [List.getD_eq_getElem _ _ (by simp; omega)]
    simp
  · rfl

theorem all_ceilingValues_iff (d : List Byte) :
    ((ceilingValues d).all fun v => v ≤ 450) = true ↔ ∀ k < byteAt d 3, word16At d (4 + 2 * k) ≤ 450 := by
  simp [ceilingValues]

/-- Settles O41, row by row of R6. -/
theorem writeCeilingByRow : Obligations.WriteCeilingByRow := by
  intro s e rest h
  dsimp only
  rw [exec_writeCeiling h]
  unfold doWriteCeiling
  refine ⟨fun mode => ?_, fun mode bad => ?_, fun mode least most last st hst => ?_⟩
  · rw [if_pos mode, State.afterCommand_refuse]
  · rw [if_neg (not_not.mpr mode)]
    by_cases count : byteAt e.data 3 < 1 ∨ 6 < byteAt e.data 3
    · rw [if_pos count, State.afterCommand_refuse]
    · rw [if_neg count, if_pos (by omega), State.afterCommand_refuse]
  · rw [← if_congr (all_ceilingValues_iff e.data) rfl rfl] at hst
    dsimp only
    rw [if_neg (not_not.mpr mode), if_neg (by omega), if_neg (by omega), writeCeilings_saturated, ← hst,
      ceilingValues, List.map_map, List.flatMap_map]
    rfl

end Sys2Proof.Machine
end

section
/-! SUPPORT. The pose of a REPORT, and the REPORTs that are only tracked (R8, R9, R102 to R107). -/

namespace Sys2Proof.Machine

/-! ### What the first steps of a REPORT leave -/

section Reported
variable (s : State) (t : TierNo) (seq raw : Nat) (p : Pose)

theorem State.reported_tier (u : TierNo) : (s.reported t seq raw p).tier u =
    if t = u then { s.tier t with lastSeq := seq, haveSeq := true, tracked := p, havePose := true } else s.tier u :=
  s.setTier_tier t u _

@[simp] theorem State.reported_mode : (s.reported t seq raw p).mode = s.mode := by
  unfold State.reported
  dsimp only
  split_ifs <;> simp

@[simp] theorem State.reported_globals : (s.reported t seq raw p).globals = s.globals := by
  unfold State.reported
  dsimp only
  split_ifs <;> simp

@[simp] theorem State.reported_records : (s.reported t seq raw p).records = s.records := by
  unfold State.reported
  dsimp only
  split_ifs <;> simp

end Reported

/-- The claim at the head of a leg queue depends on the queue and the records (R32). -/
theorem State.headClaim_congr {s u : State} {t : TierNo} (legs : (u.tier t).legs = (s.tier t).legs)
    (records : u.records = s.records) : u.headClaim t = s.headClaim t := by
  simp only [State.headClaim, State.claimAt, State.boundTo, State.record, legs, records]

/-- A tier's state depends on its configuration, placement, fault kind and leg queue, and on the records (R35). -/
theorem State.tierState_congr {s u : State} {t : TierNo} (cfg : (u.tier t).cfg = (s.tier t).cfg)
    (standing : (u.tier t).standing = (s.tier t).standing) (fault : (u.tier t).fault = (s.tier t).fault)
    (legs : (u.tier t).legs = (s.tier t).legs) (records : u.records = s.records) : u.tierState t = s.tierState t := by
  have head : u.headState t = s.headState t := congrArg (Option.map _) (State.headClaim_congr legs records)
  rw [State.tierState, State.tierState, Tier.placed, Tier.placed, cfg, standing, fault, head]

@[simp] theorem State.reported_rest (s : State) (t : TierNo) (seq raw : Nat) (p : Pose) :
    ((s.reported t seq raw p).tier t).rest = (s.tier t).rest := by
  rw [State.reported_tier, if_pos rfl]

@[simp] theorem State.reported_tierState (s : State) (t : TierNo) (seq raw : Nat) (p : Pose) :
    (s.reported t seq raw p).tierState t = s.tierState t := by
  have self := s.reported_tier t seq raw p t
  rw [if_pos rfl] at self
  apply State.tierState_congr <;> simp [self]

/-! ### Handling -/

/-- The handling of a REPORT leaves the state in the cases of R105 and R107 that only track. -/
theorem State.handleReport_of_quiet {s : State} {t : TierNo} {p : Pose} {moving drive : Bool}
    (h : s.mode = .config ∨ s.tierState t = .unplaced ∨ (s.tierState t = .faulted ∧ drive = false) ∨
      (s.tierState t = .idle ∧ drive = false ∧ moving = false ∧
        absDiff p.pos (s.tier t).rest.pos ≤ s.globals.creepLimit)) :
    s.handleReport t p moving drive = s := by
  unfold State.handleReport
  split_ifs with passive
  · rfl
  obtain ⟨running, placed⟩ := not_or.mp passive
  rcases h with config | unplaced | ⟨faulted, rfl⟩ | ⟨idle, rfl, rfl, near⟩
  · exact absurd config running
  · exact absurd unplaced placed
  · simp [State.supervise, faulted]
  · simp [State.supervise, idle, State.superviseIdle, creepTest, near]

/-- A REPORT that is no duplicate passes sequence, clamp and tracking before its handling (R102 to R105). -/
theorem State.arriveReport_fresh {s : State} {t : TierNo} {d : List Byte}
    (fresh : ¬((s.tier t).haveSeq = true ∧ byteAt d 6 % 16 = (s.tier t).lastSeq)) :
    let p := reportedPose (s.tier t).cfg (word32At d 0) (word16At d 4)
    s.arriveReport t d = ((s.reported t (byteAt d 6 % 16) (word16At d 4) p).handleReport t p
      (byteAt d 6 / 16 % 2 == 1) (byteAt d 6 / 32 % 2 == 1)).settle := by
  have accepted : ¬(s.tier t).isDuplicate (reportFields d).seq = true := by
    simpa [Tier.isDuplicate, reportFields] using fresh
  simp only [State.arriveReport, if_neg accepted, State.acceptReport, State.reported_eq]
  rfl

/-- A duplicate is discarded whole (R102). -/
theorem State.arriveReport_duplicate {s : State} {t : TierNo} {d : List Byte} (seen : (s.tier t).haveSeq = true)
    (same : byteAt d 6 % 16 = (s.tier t).lastSeq) : s.arriveReport t d = s := by
  simp [State.arriveReport, Tier.isDuplicate, reportFields, seen, same]

/-! ### The reported pose (R8, R9) -/

/-- The ring position in integers: the encoder value turned back by the origin modulo 2^32, geared by the ring multiplier,
and mirrored where the tier runs in reverse (R8). -/
theorem ringPosition_int (c : TierConfig) (e : Nat) :
    let p : Int := ((e : Int) - c.origin) % 4294967296 * c.mult / 65536 % 65536
    (ringPosition c e : Int) = if c.reverse = true then (65536 - p) % 65536 else p := by
  have turned : (((e + (2 ^ 32 - c.origin % 2 ^ 32)) % 2 ^ 32 : Nat) : Int) = ((e : Int) - c.origin) % 4294967296 := by
    omega
  unfold ringPosition
  dsimp only
  rw [← turned]
  generalize (e + (2 ^ 32 - c.origin % 2 ^ 32)) % 2 ^ 32 = u
  have geared : (u : Int) * c.mult / 65536 = (u * c.mult / 65536 : Nat) := by push_cast; rfl
  rw [geared]
  split_ifs <;> omega

/-- At the encoder origin the position is 0, in reverse too (R8). -/
theorem ringPosition_origin (c : TierConfig) : ringPosition c c.origin = 0 := by
  have turned : (c.origin + (2 ^ 32 - c.origin % 2 ^ 32)) % 2 ^ 32 = 0 := by omega
  rw [ringPosition, turned, Nat.zero_mul]
  split_ifs <;> rfl

theorem clampRake_eq (r : Nat) : clampRake r = if r ≤ 450 then r else 450 :=
  Nat.min_def ..

/-- Settles O21: duplicates, the REPORTs that are only tracked, and the pose in integers. -/
theorem reportDiscardedOrOnlyTracked : Obligations.ReportDiscardedOrOnlyTracked := by
  have flag (n : Nat) : (n % 2 == 1) = false ↔ n % 2 = 0 := by simp
  refine ⟨fun s t d rest due seen same => ?_, fun s t d rest due fresh => ?_, fun c e raw => ?_⟩
  · rw [exec_report_due due]
    exact congrArg _ (State.arriveReport_duplicate (s := { s with mpFifo := rest }) seen same)
  · intro p quiet
    rw [exec_report_due due, State.arriveReport_fresh (s := { s with mpFifo := rest }) fresh, State.handleReport_of_quiet]
    · rfl
    · simp only [State.reported_mode, State.reported_tierState, State.reported_rest, State.reported_globals, flag]
      exact quiet
  · exact ⟨ringPosition_int c e, clampRake_eq raw, ringPosition_origin c⟩

end Sys2Proof.Machine
end

section
/-! SUPPORT. WRITE_TIER, WRITE_GLOBAL, READ_TIER, READ_GLOBAL, SET_REST and ADOPT, row by row (chapter 2). -/

namespace Sys2Proof.Machine

/-! ### Arguments -/

theorem tierOfNat_val (t : TierNo) : tierOfNat t.val = some t :=
  dif_pos t.isLt

theorem tierOfNat_of_lt {n : Nat} (h : 23 < n) : tierOfNat n = none :=
  dif_neg (by omega)

theorem cfgFieldOfCode_of_lt {n : Nat} (h : 9 < n) : cfgFieldOfCode n = none := by
  unfold cfgFieldOfCode
  split <;> simp at *

theorem globalParamOfCode_of_lt {n : Nat} (h : 6 < n) : globalParamOfCode n = none := by
  unfold globalParamOfCode
  split <;> simp at *

theorem runtimeItemOfCode_of_not {n : Nat} (h : n < 0x10 ∨ 0x17 < n) : runtimeItemOfCode n = none := by
  unfold runtimeItemOfCode
  split <;> simp at *

theorem byteAt_lt (d : List Byte) (i : Nat) : byteAt d i < 256 :=
  (d.getD i 0).isLt

theorem word16At_lt (d : List Byte) (i : Nat) : word16At d i < 65536 := by
  have low := byteAt_lt d i
  have high := byteAt_lt d (i + 1)
  unfold word16At
  omega

theorem word32At_lt (d : List Byte) (i : Nat) : word32At d i < 4294967296 := by
  have low := word16At_lt d i
  have high := word16At_lt d (i + 2)
  unfold word32At
  omega

/-! ### Saturation (R21, R24) -/

/-- Within its limits a value is written as it is; outside them the nearer limit is written, and the reply says so. -/
theorem saturate_cases {lo hi : Nat} (h : lo ≤ hi) (v : Nat) :
    (lo ≤ v → v ≤ hi → saturate lo hi v = v ∧ writeStatus lo hi v = .ok) ∧
      (hi < v → saturate lo hi v = hi ∧ writeStatus lo hi v = .clamped) ∧
      (v < lo → saturate lo hi v = lo ∧ writeStatus lo hi v = .clamped) := by
  unfold saturate writeStatus
  refine ⟨fun above below => ⟨by omega, if_pos ⟨above, below⟩⟩, fun high => ⟨by omega, if_neg (by omega)⟩,
    fun low => ⟨by omega, if_neg (by omega)⟩⟩

/-- What a saturated write answers, case by case: `run` writes a value with a status. -/
theorem saturate_rows {α : Type} {a : α} (run : Nat → Status → α) {lo hi v : Nat} (h : lo ≤ hi)
    (ha : a = run (saturate lo hi v) (writeStatus lo hi v)) :
    (lo ≤ v → v ≤ hi → a = run v .ok) ∧ (hi < v → a = run hi .clamped) ∧ (v < lo → a = run lo .clamped) := by
  obtain ⟨within, above, below⟩ := saturate_cases h v
  refine ⟨fun h1 h2 => ?_, fun h1 => ?_, fun h1 => ?_⟩
  · rw [ha, (within h1 h2).1, (within h1 h2).2]
  · rw [ha, (above h1).1, (above h1).2]
  · rw [ha, (below h1).1, (below h1).2]

/-! ### WRITE_TIER (R21) -/

/-- The part after a WRITE_TIER that wrote this value into this field. -/
def State.tierWritten (s : State) (e : CpEntry) (rest : List CpEntry) (t : TierNo) (f : CfgField) (w : Nat)
    (st : Status) : Host.Outcome State Fault Refusal :=
  .next (s.answer e rest (fun s => (s.writeCfg t f w).settle) st
    (u8 (byteAt e.data 2) ++ u8 (byteAt e.data 3) ++ u32 w))

section WriteTier
variable {s : State} {e : CpEntry} {rest : List CpEntry} (due : s.CommandDue e rest 0x10) (mode : s.mode = .config)
include due mode

/-- The refusals of checks 2 to 4. -/
theorem exec_writeTier_range (bad : 23 < byteAt e.data 2 ∨ 9 < byteAt e.data 3 ∨
    ∃ f, cfgFieldOfCode (byteAt e.data 3) = some f ∧ f.isFlag = true ∧ 1 < word32At e.data 4) :
    exec .writeTier s = .next (s.refusal e rest .range) := by
  rw [exec_writeTier due, doWriteTier, if_neg (not_not.mpr mode), ← State.afterCommand_refuse]
  rcases bad with tier | field | ⟨f, field, flag, big⟩
  · rw [tierOfNat_of_lt tier]
  · rw [cfgFieldOfCode_of_lt field]
    cases tierOfNat (byteAt e.data 2) <;> rfl
  · rw [field]
    cases tierOfNat (byteAt e.data 2) <;> simp [flag, big]

variable {t : TierNo} (tier : byteAt e.data 2 = t.val) {f : CfgField}
include tier

/-- A field that passes the checks is written, saturated to its limits. -/
theorem exec_writeTier_field (field : cfgFieldOfCode (byteAt e.data 3) = some f)
    (flag : f.isFlag = true → word32At e.data 4 ≤ 1) :
    exec .writeTier s = s.tierWritten e rest t f (saturate f.lower f.upper (word32At e.data 4))
      (writeStatus f.lower f.upper (word32At e.data 4)) := by
  have checked : ¬(f.isFlag && decide (1 < word32At e.data 4)) = true := by
    simpa using flag
  rw [exec_writeTier due, doWriteTier, if_neg (not_not.mpr mode), State.tierWritten, tier, tierOfNat_val, field]
  dsimp only
  rw [if_neg checked]
  rfl

/-- The three rows of a field for which check 4 passes. -/
theorem exec_writeTier_rows {n : Nat} (field : cfgFieldOfCode n = some f) (code : byteAt e.data 3 = n)
    (flag : f.isFlag = true → word32At e.data 4 ≤ 1) :
    (f.lower ≤ word32At e.data 4 → word32At e.data 4 ≤ f.upper →
        exec .writeTier s = s.tierWritten e rest t f (word32At e.data 4) .ok) ∧
      (f.upper < word32At e.data 4 → exec .writeTier s = s.tierWritten e rest t f f.upper .clamped) ∧
      (word32At e.data 4 < f.lower → exec .writeTier s = s.tierWritten e rest t f f.lower .clamped) :=
  saturate_rows (s.tierWritten e rest t f) f.lower_le_upper (exec_writeTier_field due mode tier (code ▸ field) flag)

end WriteTier

/-- Settles O37: the checks in their order, and each field by its row of R20. -/
theorem writeTierByRow : Obligations.WriteTierByRow := by
  intro s e rest due
  refine ⟨fun mode => ?_, fun mode bad => ?_, fun mode t tier => ?_⟩
  · rw [exec_writeTier due, doWriteTier, if_pos mode, State.afterCommand_refuse]
  · exact exec_writeTier_range due mode (bad.imp_right .inl)
  have numeric {f : CfgField} (hf : f.isFlag = false) {n : Nat} (field : cfgFieldOfCode n = some f)
      (code : byteAt e.data 3 = n) := exec_writeTier_rows due mode tier field code fun flag => absurd flag (by simp [hf])
  refine ⟨fun code big => ?_, fun code small => ?_, fun code small => ?_, fun code => ?_, ?_⟩
  · refine exec_writeTier_range due mode (.inr (.inr ?_))
    simp only [List.mem_cons, List.not_mem_nil, or_false] at code
    rcases code with code | code <;> rw [code]
    · exact ⟨.enabled, rfl, rfl, big⟩
    · exact ⟨.reverse, rfl, rfl, big⟩
  · exact (exec_writeTier_rows due mode tier (f := .enabled) rfl code fun _ => small).1 (Nat.zero_le _) small
  · exact (exec_writeTier_rows due mode tier (f := .reverse) rfl code fun _ => small).1 (Nat.zero_le _) small
  · exact (numeric (f := .origin) rfl rfl code).1 (Nat.zero_le _) (Nat.le_of_lt_succ (word32At_lt e.data 4))
  · simp only [List.forall_mem_cons, List.not_mem_nil, false_imp_iff, implies_true, and_true]
    exact ⟨numeric (f := .halfWidth) rfl rfl, numeric (f := .wing) rfl rfl, numeric (f := .fold) rfl rfl,
      numeric (f := .slewDemand) rfl rfl, numeric (f := .rakeDemand) rfl rfl, numeric (f := .bestPriority) rfl rfl,
      numeric (f := .mult) rfl rfl⟩

/-! ### WRITE_GLOBAL (R24) -/

/-- The part after a WRITE_GLOBAL that wrote this value into this parameter. -/
def State.globalWritten (s : State) (e : CpEntry) (rest : List CpEntry) (p : GlobalParam) (w : Nat) (st : Status) :
    Host.Outcome State Fault Refusal :=
  .next (s.answer e rest (fun s => { s with globals := s.globals.write p w }) st (u8 (byteAt e.data 2) ++ u32 w))

/-- The three rows of a parameter. -/
theorem exec_writeGlobal_rows {s : State} {e : CpEntry} {rest : List CpEntry} (due : s.CommandDue e rest 0x14)
    (mode : s.mode = .config) {p : GlobalParam} {n : Nat} (param : globalParamOfCode n = some p)
    (code : byteAt e.data 2 = n) :
    (p.lower ≤ word32At e.data 3 → word32At e.data 3 ≤ s.globals.upper p →
        exec .writeGlobal s = s.globalWritten e rest p (word32At e.data 3) .ok) ∧
      (s.globals.upper p < word32At e.data 3 →
        exec .writeGlobal s = s.globalWritten e rest p (s.globals.upper p) .clamped) ∧
      (word32At e.data 3 < p.lower → exec .writeGlobal s = s.globalWritten e rest p p.lower .clamped) := by
  refine saturate_rows (s.globalWritten e rest p) (p.lower_le_upper s.globals) ?_
  rw [exec_writeGlobal due, doWriteGlobal, if_neg (not_not.mpr mode), code, param, State.globalWritten, code]
  rfl

/-- Settles O38: the checks in their order, and each parameter by its row of R23, G with Lc among them. -/
theorem writeGlobalByRow : Obligations.WriteGlobalByRow := by
  intro s e rest due
  refine ⟨fun mode => ?_, fun mode bad => ?_, fun mode => ?_⟩
  · rw [exec_writeGlobal due, doWriteGlobal, if_pos mode, State.afterCommand_refuse]
  · rw [exec_writeGlobal due, doWriteGlobal, if_neg (not_not.mpr mode), globalParamOfCode_of_lt bad,
      State.afterCommand_refuse]
  · simp only [List.forall_mem_cons, List.not_mem_nil, false_imp_iff, implies_true, and_true]
    exact ⟨exec_writeGlobal_rows due mode (p := .margin) rfl, exec_writeGlobal_rows due mode (p := .backoff) rfl,
      exec_writeGlobal_rows due mode (p := .arrivalTol) rfl, exec_writeGlobal_rows due mode (p := .rakeTol) rfl,
      exec_writeGlobal_rows due mode (p := .creepLimit) rfl, exec_writeGlobal_rows due mode (p := .stopMargin) rfl,
      exec_writeGlobal_rows due mode (p := .leasePeriod) rfl⟩

/-! ### READ_TIER and READ_GLOBAL (R25) -/

/-- No identifier between the configuration fields and the runtime items, or past these, is accepted (R25). -/
theorem State.readField_of_not (s : State) (t : TierNo) {n : Nat} (h : 9 < n ∧ n < 0x10 ∨ 0x17 < n) :
    s.readField t n = none := by
  rw [State.readField, cfgFieldOfCode_of_lt (by omega), runtimeItemOfCode_of_not (by omega)]
  rfl

/-- READ_TIER answers with the bytes `State.readField` gives, whatever follows them being 0 (R25, R178). -/
theorem exec_readTier_field {s : State} {e : CpEntry} {rest : List CpEntry} (due : s.CommandDue e rest 0x11) {t : TierNo}
    (tier : byteAt e.data 2 = t.val) {n : Nat} {v w : List Byte} (field : s.readField t n = some v)
    (same : padTo 14 (u8 t.val ++ u8 n ++ v) = padTo 14 (u8 t.val ++ u8 n ++ w)) (code : byteAt e.data 3 = n) :
    exec .readTier s = .next (s.answer e rest id .ok (u8 t.val ++ u8 (byteAt e.data 3) ++ w)) := by
  rw [exec_readTier due, doReadTier, tier, tierOfNat_val, code]
  dsimp only
  rw [show ({ s with cpFifo := rest } : State).readField t n = some v from field]
  dsimp only
  rw [Answer.of, same]
  rfl

theorem exec_readGlobal_param {s : State} {e : CpEntry} {rest : List CpEntry} (due : s.CommandDue e rest 0x15) {n : Nat}
    {p : GlobalParam} (param : globalParamOfCode n = some p) (code : byteAt e.data 2 = n) :
    exec .readGlobal s = .next (s.answer e rest id .ok (u8 n ++ u32 (s.globals.read p))) := by
  rw [exec_readGlobal due, doReadGlobal, code, param]
  rfl

/-- Settles O39: the identifiers one by one, as `State.readField` and `Globals.read` give them. -/
theorem readTierAndGlobalReturnTheField : Obligations.ReadTierAndGlobalReturnTheField := by
  intro s e rest
  refine ⟨fun due => ⟨fun bad => ?_, fun t tier => ?_⟩, fun due => ⟨fun bad => ?_, ?_⟩⟩
  · rw [exec_readTier due, doReadTier, ← State.afterCommand_refuse]
    cases found : tierOfNat (byteAt e.data 2) with
    | none => rfl
    | some t =>
      have field : 9 < byteAt e.data 3 ∧ byteAt e.data 3 < 0x10 ∨ 0x17 < byteAt e.data 3 :=
        bad.resolve_left fun tier => by rw [tierOfNat_of_lt tier] at found; cases found
      dsimp only
      rw [State.readField_of_not _ t field]
  · simp only [List.forall_mem_cons, List.not_mem_nil, false_imp_iff, implies_true, and_true]
    have answer {n : Nat} {v : List Byte} (field : s.readField t n = some v) :=
      exec_readTier_field due tier field (w := v) rfl
    refine ⟨answer rfl, answer rfl, answer rfl, answer rfl, answer rfl, answer rfl, answer rfl, answer rfl, answer rfl,
      answer rfl, answer rfl, ?_, answer rfl, answer rfl, answer rfl, answer rfl, answer rfl, answer rfl⟩
    have bytes : s.readField t 0x11 = some (s.runtimeBytes t .standingArc) := rfl
    cases arc : (s.tier t).standing with
    | none => exact exec_readTier_field due tier bytes (by rw [State.runtimeBytes, arc]; rfl)
    | some a => exact exec_readTier_field due tier bytes (by rw [State.runtimeBytes, arc])
  · rw [exec_readGlobal due, doReadGlobal, globalParamOfCode_of_lt bad, State.afterCommand_refuse]
  · simp only [List.forall_mem_cons, List.not_mem_nil, false_imp_iff, implies_true, and_true]
    exact ⟨exec_readGlobal_param due (p := .margin) rfl, exec_readGlobal_param due (p := .backoff) rfl,
      exec_readGlobal_param due (p := .arrivalTol) rfl, exec_readGlobal_param due (p := .rakeTol) rfl,
      exec_readGlobal_param due (p := .creepLimit) rfl, exec_readGlobal_param due (p := .stopMargin) rfl,
      exec_readGlobal_param due (p := .leasePeriod) rfl⟩

/-! ### SET_REST and ADOPT (R36, R37) -/

/-- Settles O40: the checks in their order; both commands place the tier by `State.placeAtFootprint`. -/
theorem setRestAndAdoptPlaceTheTier : Obligations.SetRestAndAdoptPlaceTheTier := by
  intro s e rest
  refine ⟨fun due => ⟨fun mode => ?_, fun mode bad => ?_, fun mode t tier => ⟨fun pos rake => ?_, fun out => ?_⟩⟩,
    fun due => ⟨fun mode => ?_, fun mode bad => ?_, fun mode t tier => ⟨fun unknown => ?_, fun known => ?_⟩⟩⟩
  · rw [exec_setRest due, doSetRest, if_pos mode, State.afterCommand_refuse]
  · rw [exec_setRest due, doSetRest, if_neg (not_not.mpr mode), tierOfNat_of_lt bad, State.afterCommand_refuse]
  · rw [exec_setRest due, doSetRest, if_neg (not_not.mpr mode), tier, tierOfNat_val]
    dsimp only
    rw [if_pos ⟨pos, rake⟩, Nat.min_eq_left pos, Nat.min_eq_left rake]
    rfl
  · rw [exec_setRest due, doSetRest, if_neg (not_not.mpr mode), tier, tierOfNat_val]
    dsimp only
    rw [if_neg (by omega)]
    rfl
  · rw [exec_adopt due, doAdopt, if_pos mode, State.afterCommand_refuse]
  · rw [exec_adopt due, doAdopt, if_neg (not_not.mpr mode), tierOfNat_of_lt bad, State.afterCommand_refuse]
  · rw [exec_adopt due, doAdopt, if_neg (not_not.mpr mode), tier, tierOfNat_val, ← State.afterCommand_refuse]
    exact congrArg (fun r => Host.Outcome.next (State.afterCommand e r)) (if_pos (congrArg (! ·) unknown))
  · rw [exec_adopt due, doAdopt, if_neg (not_not.mpr mode), tier, tierOfNat_val]
    exact congrArg (fun r => Host.Outcome.next (State.afterCommand e r))
      (if_neg (Bool.eq_false_iff.mp (congrArg (! ·) known)))

end Sys2Proof.Machine
end

section
/-! SUPPORT. The claim table read through its invariants: a handle's claim, a tier's active claim, its space record. -/

namespace Sys2Proof.Machine

/-! ### Phases -/

/-- The phases in which PERMIT is on (R162). -/
def Phase.permits : Phase → Bool
  | .granted _ => true
  | .waiting | .stopping _ | .frozen _ => false

/-- The phases in which the lease runs (R112). -/
def Phase.runs : Phase → Bool
  | .granted _ | .stopping _ => true
  | .waiting | .frozen _ => false

theorem Phase.permits_iff (p : Phase) : p.permits = true ↔ ∃ g, p = .granted g := by
  cases p <;> simp [Phase.permits]

theorem Phase.runs_iff (p : Phase) : p.runs = true ↔ ∃ g, p = .granted g ∨ p = .stopping g := by
  cases p <;> simp [Phase.runs]

theorem Claim.grant?_eq_none {c : Claim} : c.grant? = none ↔ c.phase = .waiting := by
  rcases c with ⟨_, _, _, _, p⟩
  cases p <;> simp [Claim.grant?]

theorem Claim.grant?_isSome {c : Claim} (h : c.phase ≠ .waiting) : ∃ g, c.grant? = some g :=
  Option.ne_none_iff_exists'.mp fun e => h (Claim.grant?_eq_none.mp e)

theorem Claim.active_of_grant? {c : Claim} {g : Grant} (h : c.grant? = some g) : c.phase ≠ .waiting := fun e => by
  rw [Claim.grant?_eq_none.mpr e] at h
  cases h

theorem Claim.isActive_iff {c : Claim} : c.isActive = true ↔ c.phase ≠ .waiting := by
  rw [Claim.isActive, Bool.not_eq_true', ← Bool.not_eq_true, Claim.isWaiting_iff]

/-- What an active phase is, by its grant (R42). -/
theorem Claim.phase_of_grant? {c : Claim} {g : Grant} (h : c.grant? = some g) :
    c.phase = .granted g ∨ c.phase = .stopping g ∨ c.phase = .frozen g := by
  rcases c with ⟨_, _, _, _, p⟩
  cases p <;> simp_all [Claim.grant?]

theorem Claim.result_of_grant? {c : Claim} {g : Grant} (h : c.grant? = some g) : c.result = .granted := by
  rcases Claim.phase_of_grant? h with e | e | e <;> simp [Claim.result, e]

/-! ### A handle's claim -/

section Reading
variable {s : State}

theorem State.boundTo_eq_none {h : Handle} : s.boundTo h = none ↔ ∀ i c, s.Holds i c → c.handle ≠ h := by
  simp only [State.boundTo, List.find?_eq_none, List.mem_finRange, true_imp_iff, Option.any_eq_true, beq_iff_eq,
    State.Holds, not_exists, not_and]

theorem State.boundTo_eq_some {h : Handle} {i : RecNo} (e : s.boundTo h = some i) : ∃ c, s.Holds i c ∧ c.handle = h := by
  have found := List.find?_some e
  simpa only [Option.any_eq_true, beq_iff_eq, State.Holds] using found

theorem State.claimAt_spec {h : Handle} {i : RecNo} {c : Claim} (e : s.claimAt h = some (i, c)) :
    s.Holds i c ∧ c.handle = h := by
  unfold State.claimAt at e
  split at e
  · cases e
  · next j bound =>
    obtain ⟨d, hd, handle⟩ := State.boundTo_eq_some bound
    rw [hd] at e
    cases e
    exact ⟨hd, handle⟩

theorem State.HandlesUnique.claimAt_iff (hs : s.HandlesUnique) {h : Handle} {i : RecNo} {c : Claim} :
    s.claimAt h = some (i, c) ↔ s.Holds i c ∧ c.handle = h := by
  refine ⟨State.claimAt_spec, fun ⟨hc, handle⟩ => ?_⟩
  cases bound : s.boundTo h with
  | none => exact absurd handle (State.boundTo_eq_none.mp bound i c hc)
  | some j =>
    obtain ⟨d, hd, handle'⟩ := State.boundTo_eq_some bound
    obtain rfl := hs j i d c hd hc (handle'.trans handle.symm)
    simp only [State.claimAt, bound, show s.record j = some c from hc, Option.map_some]

theorem State.claimAt_eq_none {h : Handle} (e : s.claimAt h = none) (i : RecNo) (c : Claim) (hc : s.Holds i c) :
    c.handle ≠ h := by
  refine State.boundTo_eq_none.mp ?_ i c hc
  cases bound : s.boundTo h with
  | none => rfl
  | some j =>
    obtain ⟨d, hd, -⟩ := State.boundTo_eq_some bound
    simp [State.claimAt, bound, show s.record j = some d from hd] at e

end Reading

/-! ### The claim table as a whole -/

/-- The claim records, the wait list and the leg queues tell the same story (R32, R39, R60). -/
structure State.TableExact (s : State) : Prop where
  handles : s.HandlesUnique
  waitList : s.WaitListExact
  legQueues : s.LegQueuesExact

section Table
variable {s : State} (h : s.TableExact)
include h

theorem State.TableExact.mem_legs {i : RecNo} {c : Claim} (hc : s.Holds i c) :
    c.handle.slot ∈ (s.tier c.handle.tier).legs :=
  (h.legQueues.exact _ _).mpr ⟨i, c, hc, rfl⟩

/-- An active claim is the head of its leg queue (R32). -/
theorem State.TableExact.head_of_active {i : RecNo} {c : Claim} (hc : s.Holds i c) (active : c.phase ≠ .waiting) :
    (s.tier c.handle.tier).legs.head? = some c.handle.slot := by
  have queued := h.mem_legs hc
  have behind := fun tail => active (h.legQueues.behindHead _ _ tail i c hc rfl)
  cases legs : (s.tier c.handle.tier).legs with
  | nil => simp [legs] at queued
  | cons k l =>
    rw [legs] at queued behind
    rcases List.mem_cons.mp queued with rfl | tail
    · rfl
    · exact absurd tail behind

/-- A claim whose slot is the head of the leg queue is the head claim (R32). -/
theorem State.TableExact.headClaim_of_head {i : RecNo} {c : Claim} (hc : s.Holds i c)
    (head : (s.tier c.handle.tier).legs.head? = some c.handle.slot) : s.headClaim c.handle.tier = some (i, c) := by
  obtain ⟨l, legs⟩ := List.head?_eq_some_iff.mp head
  simp only [State.headClaim, legs]
  exact h.handles.claimAt_iff.mpr ⟨hc, rfl⟩

/-- The other claims of a tier are WAITING when one is its head (R32). -/
theorem State.TableExact.waiting_of_head {i j : RecNo} {c d : Claim} (hc : s.Holds i c)
    (head : (s.tier c.handle.tier).legs.head? = some c.handle.slot) (hd : s.Holds j d)
    (tier : d.handle.tier = c.handle.tier) (other : j ≠ i) : d.phase = .waiting := by
  obtain ⟨l, legs⟩ := List.head?_eq_some_iff.mp head
  have queued := h.mem_legs hd
  rw [tier, legs] at queued
  have slot : d.handle.slot ≠ c.handle.slot := fun slot =>
    other (h.handles j i d c hd hc (by cases hdh : d.handle; cases hch : c.handle; simp_all))
  refine h.legQueues.behindHead c.handle.tier d.handle.slot ?_ j d hd (by rw [← tier])
  rw [legs]
  exact (List.mem_cons.mp queued).resolve_left slot

theorem State.TableExact.slot_not_behind {c : Claim}
    (head : (s.tier c.handle.tier).legs.head? = some c.handle.slot) :
    c.handle.slot ∉ (s.tier c.handle.tier).legs.tail := by
  obtain ⟨l, legs⟩ := List.head?_eq_some_iff.mp head
  have nodup := h.legQueues.nodup c.handle.tier
  rw [legs] at nodup ⊢
  exact (List.nodup_cons.mp nodup).1

theorem State.TableExact.headClaim_iff {t : TierNo} {i : RecNo} {c : Claim} : s.headClaim t = some (i, c) ↔
    s.Holds i c ∧ c.handle.tier = t ∧ (s.tier t).legs.head? = some c.handle.slot := by
  refine ⟨fun e => ?_, fun ⟨hc, tier, head⟩ => tier ▸ h.headClaim_of_head hc (tier ▸ head)⟩
  unfold State.headClaim at e
  cases legs : (s.tier t).legs with
  | nil => simp [legs] at e
  | cons k l =>
    simp only [legs] at e
    obtain ⟨hc, handle⟩ := State.claimAt_spec e
    rw [handle]
    exact ⟨hc, rfl, rfl⟩

/-- The tier has no claim when its leg queue has no head claim (R32). -/
theorem State.TableExact.no_claim_of_headClaim {t : TierNo} (e : s.headClaim t = none) (i : RecNo) (c : Claim)
    (hc : s.Holds i c) : c.handle.tier ≠ t := by
  rintro rfl
  have queued := h.mem_legs hc
  unfold State.headClaim at e
  cases legs : (s.tier c.handle.tier).legs with
  | nil => simp [legs] at queued
  | cons k l =>
    simp only [legs] at e
    obtain ⟨j, d, hd, handle⟩ := (h.legQueues.exact c.handle.tier k).mp (by simp [legs])
    exact State.claimAt_eq_none e j d hd handle

/-- A tier's active claim is the one claim of the tier that is not WAITING (R32). -/
theorem State.TableExact.activeClaim_iff {t : TierNo} {i : RecNo} {c : Claim} : s.activeClaim t = some (i, c) ↔
    s.Holds i c ∧ c.handle.tier = t ∧ c.phase ≠ .waiting := by
  have head := h.headClaim_iff (t := t) (i := i) (c := c)
  unfold State.activeClaim
  refine ⟨fun e => ?_, fun ⟨hc, tier, active⟩ => ?_⟩
  · cases found : s.headClaim t with
    | none => simp [found] at e
    | some x =>
      obtain ⟨j, d⟩ := x
      simp only [found, Option.ite_none_right_eq_some, Claim.isActive_iff, Option.some.injEq] at e
      obtain ⟨active, same⟩ := e
      obtain ⟨hc, tier, -⟩ := head.mp (same ▸ found)
      cases same
      exact ⟨hc, tier, active⟩
  · rw [head.mpr ⟨hc, tier, tier ▸ h.head_of_active hc active⟩]
    exact if_pos (Claim.isActive_iff.mpr active)

theorem State.TableExact.activeArc_iff {t : TierNo} {a : Arc} : s.activeArc t = some a ↔
    ∃ i c g, s.Holds i c ∧ c.handle.tier = t ∧ c.grant? = some g ∧ g.arc = a := by
  have active (i : RecNo) (c : Claim) := h.activeClaim_iff (t := t) (i := i) (c := c)
  unfold State.activeArc
  refine ⟨fun e => ?_, fun ⟨i, c, g, hc, tier, grant, arc⟩ => ?_⟩
  · cases found : s.activeClaim t with
    | none => simp [found] at e
    | some x =>
      obtain ⟨i, c⟩ := x
      obtain ⟨hc, tier, -⟩ := (active i c).mp found
      simp only [found, Option.map_eq_some_iff] at e
      obtain ⟨g, grant, arc⟩ := e
      exact ⟨i, c, g, hc, tier, grant, arc⟩
  · rw [(active i c).mpr ⟨hc, tier, Claim.active_of_grant? grant⟩]
    simp only [grant, Option.map_some, arc]

end Table

/-! ### Space records -/

/-- The space record of a tier with an active claim is its arc, of any other enabled and placed tier its standing arc
(R34). -/
theorem State.spaceRecord_eq (s : State) (t : TierNo) : s.spaceRecord t =
    if (s.tier t).cfg.enabled = true ∧ (s.tier t).placed = true then (s.activeArc t).or (s.tier t).standing else none := by
  unfold State.spaceRecord
  simp only [Bool.and_eq_true]
  split_ifs
  · cases s.activeArc t <;> rfl
  · rfl

/-- An arc is clear of the space records of all other tiers (R71). -/
theorem State.clearOfOthers_iff {s : State} {t : TierNo} {a : Arc} : s.clearOfOthers t a = true ↔
    ∀ u b, u ≠ t → s.spaceRecord u = some b → a.overlaps b = false := by
  simp only [State.clearOfOthers, List.all_eq_true, List.mem_finRange, true_imp_iff, Bool.or_eq_true, beq_iff_eq,
    Bool.not_eq_true', Option.any_eq_false]
  exact ⟨fun h u b other hb => by simpa using (h u).resolve_left other b hb,
    fun h u => or_iff_not_imp_left.mpr fun other b hb => by simpa using h u b other hb⟩

end Sys2Proof.Machine
end

section
/-! SUPPORT. What an arc within another inherits from it: what it is clear of, and the ceiling over it; sums over the claim
records in which one record changes. -/

namespace Sys2Proof.Machine

/-! ### Arcs within arcs (R2, R3) -/

/-- Distances see positions modulo the ring (R1). -/
theorem forward_mod (a b : Nat) : forward (a % 65536) (b % 65536) = forward a b := by
  unfold forward
  omega

/-- A nonempty arc within another is clear of whatever the other is clear of (R2, R3). -/
theorem Arc.clear_of_within {a f : Arc} (nonempty : 0 < f.length) (hw : f.within a = true) {b : Arc}
    (h : a.overlaps b = false) : f.overlaps b = false := by
  have ha := Nat.mod_lt a.start (show 0 < 65536 by decide)
  have hb := Nat.mod_lt b.start (show 0 < 65536 by decide)
  have hf := Nat.mod_lt f.start (show 0 < 65536 by decide)
  rw [Arc.within_iff] at hw
  rw [Arc.overlaps_eq_false] at h ⊢
  simp only [← forward_mod a.start, ← forward_mod b.start, ← forward_mod f.start] at hw h ⊢
  obtain ⟨before, after⟩ := h
  rw [forward_of_between ha hb hf (by omega), forward_past ha hb hf (by omega)]
  omega

/-! ### The ceiling over an arc (R4, R7) -/

theorem foldl_min_le {α : Type} (f : α → Nat) (l : List α) (m : Nat) :
    l.foldl (fun m k => min m (f k)) m ≤ m ∧ ∀ k ∈ l, l.foldl (fun m k => min m (f k)) m ≤ f k := by
  induction l generalizing m with
  | nil => simp
  | cons a l ih =>
    obtain ⟨start, rest⟩ := ih (min m (f a))
    rw [List.foldl_cons, List.forall_mem_cons]
    exact ⟨start.trans (min_le_left _ _), start.trans (min_le_right _ _), rest⟩

theorem le_foldl_min {α : Type} (f : α → Nat) (l : List α) {m n : Nat} (hm : n ≤ m) (hl : ∀ k ∈ l, n ≤ f k) :
    n ≤ l.foldl (fun m k => min m (f k)) m := by
  induction l generalizing m with
  | nil => exact hm
  | cons a l ih =>
    rw [List.forall_mem_cons] at hl
    exact ih (le_min hm hl.1) hl.2

theorem Arc.mem_sectors {a : Arc} {k : Fin 256} :
    k ∈ a.sectors ↔ ∃ j < a.sectorCount, Fin.ofNat 256 (a.firstSector + j) = k := by
  simp [Arc.sectors]

theorem Arc.sectorCount_pos (a : Arc) : 0 < a.sectorCount := by
  unfold Arc.sectorCount
  omega

/-- The ceiling over an arc is the greatest bound of the sectors it touches (R7). -/
theorem le_ceilingOver_iff {v : Vector Nat 256} {a : Arc} {n : Nat} :
    n ≤ ceilingOver v a ↔ ∀ k ∈ a.sectors, n ≤ v[k] := by
  have first : Fin.ofNat 256 a.firstSector ∈ a.sectors := Arc.mem_sectors.mpr ⟨0, a.sectorCount_pos, rfl⟩
  refine ⟨fun h k hk => h.trans ((foldl_min_le _ _ _).2 k hk), fun h => le_foldl_min _ _ (h _ first) h⟩

/-- An arc within another touches no sector that the other does not (R3, R4). -/
theorem Arc.sectors_subset_of_within {a f : Arc} (ha : a.start < 65536) (hf : f.start < 65536) (nonempty : 0 < f.length)
    (hw : f.within a = true) {k : Fin 256} (hk : k ∈ f.sectors) : k ∈ a.sectors := by
  rw [Arc.within_iff, forward_eq ha hf] at hw
  rw [Arc.mem_sectors] at hk ⊢
  obtain ⟨j, hj, rfl⟩ := hk
  unfold Arc.sectorCount Arc.firstSector at *
  refine ⟨((a.start % 256 + (if a.start ≤ f.start then f.start - a.start else f.start + 65536 - a.start)) / 256 + j) % 256,
    ?_, Fin.ext ?_⟩
  · split_ifs at * <;> omega
  · simp only [Fin.ofNat]
    split_ifs at * <;> omega

theorem ceilingOver_of_within {v : Vector Nat 256} {a f : Arc} (ha : a.start < 65536) (hf : f.start < 65536)
    (nonempty : 0 < f.length) (hw : f.within a = true) : ceilingOver v a ≤ ceilingOver v f :=
  le_ceilingOver_iff.mpr fun _ hk => le_ceilingOver_iff.mp le_rfl _ (Arc.sectors_subset_of_within ha hf nonempty hw hk)

/-! ### Sums over the claim records (R92) -/

/-- A sum over the records in which one record changes. -/
theorem sum_finRange_update {f g : RecNo → Nat} {i : RecNo} (same : ∀ j, j ≠ i → f j = g j) :
    ((List.finRange 64).map f).sum + g i = ((List.finRange 64).map g).sum + f i := by
  rw [← Fin.sum_univ_def, ← Fin.sum_univ_def, ← Finset.add_sum_erase _ f (Finset.mem_univ i),
    ← Finset.add_sum_erase _ g (Finset.mem_univ i),
    Finset.sum_congr rfl fun j hj => same j (Finset.ne_of_mem_erase hj)]
  ring

end Sys2Proof.Machine
end

section
/-! SUPPORT. What holds at every moment of an event under way: `State.Safe` but for what the event has still to restore. -/

namespace Sys2Proof.Machine

/-! ### The links -/

/-- What the part holds of its two links: FIFOs, ports, transmissions (R156 to R167). -/
structure Links where
  mpFifo : List MpEntry
  mpPort : Port
  mpTx : Option NoticeTx
  cpFifo : List CpEntry
  replies : List Reply
  cpPort : Port
  cpTx : Option Reply

def State.links (s : State) : Links :=
  ⟨s.mpFifo, s.mpPort, s.mpTx, s.cpFifo, s.replies, s.cpPort, s.cpTx⟩

/-- The part with other links. -/
def State.withLinks (s : State) (l : Links) : State :=
  { s with
    mpFifo := l.mpFifo, mpPort := l.mpPort, mpTx := l.mpTx, cpFifo := l.cpFifo, replies := l.replies, cpPort := l.cpPort,
    cpTx := l.cpTx }

/-- What `State.Safe` says of the links. -/
structure Links.Safe (l : Links) : Prop where
  mpFifo : l.mpFifo.length ≤ 16
  cpFifo : l.cpFifo.length ≤ 16
  replies : l.replies.length ≤ 16
  inFlight : ∀ r, l.cpTx = some r → l.replies.head? = some r
  mpPort : l.mpPort.Consistent
  cpPort : l.cpPort.Consistent
  mpTx : l.mpPort.link = .busOff → l.mpTx = none
  cpTx : l.cpPort.link = .busOff → l.cpTx = none

/-! ### The parts of the invariant -/

/-- What an event under way may leave open, and the links as it leaves them. -/
structure Underway where
  links : Links
  /-- The tiers whose lease has run out and has not expired yet. -/
  late : TierNo → Prop
  /-- The tiers in their hard-fault event, whose claims are not all FROZEN yet. -/
  failing : TierNo → Prop
  /-- The test for the scan's end has still to come. -/
  scan : Prop
  /-- The attention flags have still to follow. -/
  attention : Prop

/-- Some claim of the tier is in a phase that `p` picks. -/
def State.TierHas (s : State) (t : TierNo) (p : Phase → Bool) : Prop :=
  ∃ i c, s.Holds i c ∧ c.handle.tier = t ∧ p c.phase = true

/-- What the active claims determine or must respect: PERMIT lines, running leases, pools, holds, ceilings, space. -/
structure State.ActiveSafe (s : State) : Prop where
  permit : ∀ t, s.permitLine t = true ↔ s.TierHas t Phase.permits
  runs : ∀ t, (s.tier t).leaseRunning = true ↔ s.TierHas t Phase.runs
  grantedOnlyInRun : s.GrantedOnlyInRun
  pools : s.PoolsBalance
  holds : s.HoldsRespected
  ceilings : s.CeilingsRespected
  space : s.SpaceSeparate

/-- A lease that does not run stands at 0, and one that runs does not, but for the tiers that `late` names (R113). -/
structure State.CountdownsBut (late : TierNo → Prop) (s : State) : Prop where
  stopped : ∀ t, 1 ≤ (s.tier t).lease → (s.tier t).leaseRunning = true
  running : ∀ t, (s.tier t).leaseRunning = true → 1 ≤ (s.tier t).lease ∨ late t

/-- `State.FaultsExact` but for the tiers that `failing` names (R127). -/
structure State.FaultsBut (failing : TierNo → Prop) (s : State) : Prop where
  frozen : ∀ i c, s.Holds i c → (s.tier c.handle.tier).fault.isSome →
    (∃ g, c.phase = .frozen g) ∨ failing c.handle.tier
  faulted : ∀ i c g, s.Holds i c → c.phase = .frozen g → (s.tier c.handle.tier).fault.isSome

/-- The scan state is idle while no scan runs, and only records in the wait list are marked (R63). -/
structure State.MarksExact (s : State) : Prop where
  idle : s.scan.running = false → s.scan = Scan.idle
  marks : ∀ i, s.marked i = true → i ∈ s.waitList

/-- What holds at every moment of an event under way, with RESETN high. -/
structure State.SafeIn (k : Underway) (s : State) : Prop where
  high : s.resetHeld = false
  links : s.links = k.links
  table : s.TableExact
  mailboxes : s.MailboxesExact
  active : s.ActiveSafe
  countdowns : s.CountdownsBut k.late
  faults : s.FaultsBut k.failing
  configEmpty : s.ConfigEmpty
  placed : s.Placed
  settings : s.SettingsInRange
  records : s.RecordsInRange
  capture : s.CaptureConsistent
  marks : s.MarksExact
  members : k.scan ∨ (s.scan.running = true → s.membersLeft = true)
  attention : k.attention ∨ s.AttentionFollows

/-- Nothing is open. -/
def Underway.done (l : Links) : Underway :=
  { links := l, late := fun _ => False, failing := fun _ => False, scan := False, attention := False }

/-- The scan's end and the attention flags are open. -/
def Underway.busy (l : Links) : Underway :=
  { links := l, late := fun _ => False, failing := fun _ => False, scan := True, attention := True }

theorem State.tierHas_permits {s : State} {t : TierNo} :
    s.TierHas t Phase.permits ↔ ∃ i c g, s.Holds i c ∧ c.handle.tier = t ∧ c.phase = .granted g := by
  simp only [State.TierHas, Phase.permits_iff, exists_and_left]

theorem State.tierHas_runs {s : State} {t : TierNo} : s.TierHas t Phase.runs ↔
    ∃ i c g, s.Holds i c ∧ c.handle.tier = t ∧ (c.phase = .granted g ∨ c.phase = .stopping g) := by
  simp only [State.TierHas, Phase.runs_iff, exists_and_left]

theorem State.Safe.links {s : State} (h : s.Safe) : s.links.Safe where
  mpFifo := h.fifos.mp
  cpFifo := h.fifos.cp
  replies := h.fifos.replies
  inFlight := h.replyInFlight
  mpPort := h.ports.mp
  cpPort := h.ports.cp
  mpTx := h.ports.mpTx
  cpTx := h.ports.cpTx

/-- Between events nothing is open. -/
theorem State.Safe.inDone {s : State} (h : s.Safe) (high : s.resetHeld = false) : s.SafeIn (.done s.links) where
  high := high
  links := rfl
  table := ⟨h.handles, h.waitList, h.legQueues⟩
  mailboxes := h.mailboxes
  active :=
    { permit := fun t => (h.permit t).trans State.tierHas_permits.symm
      runs := fun t => (h.leases.runs t).trans State.tierHas_runs.symm
      grantedOnlyInRun := h.grantedOnlyInRun
      pools := h.pools
      holds := h.holds
      ceilings := h.ceilings
      space := h.space }
  countdowns := ⟨fun t => (h.leases.countdown t).mpr, fun t running => .inl ((h.leases.countdown t).mp running)⟩
  faults := ⟨fun i c hc hf => .inl (h.faults.frozen i c hc hf), h.faults.faulted⟩
  configEmpty := h.configEmpty
  placed := h.placed
  settings := h.settings
  records := h.records
  capture := h.capture
  marks := ⟨h.scan.idle, h.scan.marks⟩
  members := .inr h.scan.members
  attention := .inr h.attention

/-- An event that leaves nothing open ends in a safe state. -/
theorem State.SafeIn.safe {s : State} {l : Links} (h : s.SafeIn (.done l)) (hl : l.Safe) : s.Safe := by
  obtain rfl : s.links = l := h.links
  exact
    { handles := h.table.handles
      waitList := h.table.waitList
      legQueues := h.table.legQueues
      mailboxes := h.mailboxes
      permit := fun t => (h.active.permit t).trans State.tierHas_permits
      leases :=
        { runs := fun t => (h.active.runs t).trans State.tierHas_runs
          countdown := fun t => ⟨fun running => (h.countdowns.running t running).resolve_right id, h.countdowns.stopped t⟩ }
      faults := ⟨fun i c hc hf => (h.faults.frozen i c hc hf).resolve_right id, h.faults.faulted⟩
      grantedOnlyInRun := h.active.grantedOnlyInRun
      configEmpty := h.configEmpty
      placed := h.placed
      pools := h.active.pools
      holds := h.active.holds
      ceilings := h.active.ceilings
      space := h.active.space
      settings := h.settings
      records := h.records
      fifos := ⟨hl.mpFifo, hl.cpFifo, hl.replies⟩
      replyInFlight := hl.inFlight
      held := fun low => absurd (h.high.symm.trans low) nofun
      ports := ⟨hl.mpPort, hl.cpPort, hl.mpTx, hl.cpTx⟩
      capture := h.capture
      scan := ⟨h.marks.idle, h.members.resolve_left id, h.marks.marks⟩
      attention := h.attention.resolve_left id }

end Sys2Proof.Machine
end

section
/-! SUPPORT. What one record's change does to the invariants: a claim in a new phase, or gone. -/

namespace Sys2Proof.Machine

/-! ### Attention (R173) -/

/-- What the attention unit sees of a tier (R35, R173). -/
def Tier.shows (r : Tier) : Bool :=
  r.cfg.enabled && r.placed && r.fault.isSome

theorem State.tierState_eq_faulted {s : State} {t : TierNo} : s.tierState t = .faulted ↔ (s.tier t).shows = true := by
  unfold State.tierState Tier.shows
  split_ifs <;> simp_all

theorem State.conditions_congr {s u : State} (mode : u.mode = s.mode) (stopn : u.stopnLow = s.stopnLow)
    (capture : u.capture = s.capture) (second : u.second = s.second)
    (overdrawn : (u.hyd.overdrawn || u.slew.overdrawn) = (s.hyd.overdrawn || s.slew.overdrawn))
    (tiers : ∀ t, (u.tier t).shows = (s.tier t).shows) : u.conditions = s.conditions := by
  have faulted : u.anyFaulted = s.anyFaulted := by
    unfold State.anyFaulted
    congr 1
    funext t
    rw [Bool.eq_iff_iff, beq_iff_eq, beq_iff_eq, State.tierState_eq_faulted, State.tierState_eq_faulted, tiers]
  simp only [State.conditions, mode, stopn, capture, second, overdrawn, faulted]

theorem State.AttentionFollows.congr {s u : State} (h : s.AttentionFollows) (conditions : u.conditions = s.conditions)
    (flags : u.flags = s.flags) (enables : u.enables = s.enables) (attn : u.attn = s.attn)
    (held : u.resetHeld = s.resetHeld) : u.AttentionFollows where
  flags := by rw [flags, conditions, h.flags]
  attn high := by rw [attn, flags, enables, h.attn (held ▸ high)]
  held low := by rw [attn, h.held (held ▸ low)]

/-! ### One record changes -/

/-- Record `i`, which held the claim `c`, holds `o` in `u`, the same claim in another phase or none; the wait list, the
marks, the tier's record, now `r`, and the mailbox are written with it. Everything that is not named here or left to the
pools and the PERMIT line is as in `s`. -/
structure State.Rewrite (s u : State) (i : RecNo) (c : Claim) (o : Option Claim) (r : Tier) : Prop where
  was : s.Holds i c
  becomes : ∀ d, o = some d → d.handle = c.handle ∧ d.phase ≠ .waiting
  head : o ≠ none → (s.tier c.handle.tier).legs.head? = some c.handle.slot
  record : ∀ j, u.record j = if i = j then o else s.record j
  waitList : u.waitList = s.waitList.filter fun j => j != i
  scan : u.scan = (s.unmark i).scan
  tier : ∀ t, u.tier t = if c.handle.tier = t then r else s.tier t
  cfg : r.cfg = (s.tier c.handle.tier).cfg
  fault : r.fault = (s.tier c.handle.tier).fault
  legs : r.legs =
    if o = none then (s.tier c.handle.tier).legs.filter fun k => k != c.handle.slot else (s.tier c.handle.tier).legs
  mailbox : ∀ h, h ≠ c.handle → u.mailbox h = s.mailbox h
  shown : ∀ d, o = some d → (u.mailbox c.handle).state = d.state ∧ (u.mailbox c.handle).result = d.result
  free : o = none → (u.mailbox c.handle).state = .free
  rest : u =
    { s with
      records := u.records, waitList := u.waitList, scan := u.scan, tiers := u.tiers, permit := u.permit,
      mailboxes := u.mailboxes, hyd := { s.hyd with committed := u.hyd.committed },
      slew := { s.slew with committed := u.slew.committed } }

namespace State.Rewrite
variable {s u : State} {i : RecNo} {c : Claim} {o : Option Claim} {r : Tier} (w : s.Rewrite u i c o r)
include w

theorem holds_self {d : Claim} : u.Holds i d ↔ o = some d := by
  rw [State.Holds, w.record, if_pos rfl]

theorem holds_of_ne {j : RecNo} (h : j ≠ i) {d : Claim} : u.Holds j d ↔ s.Holds j d := by
  rw [State.Holds, w.record, if_neg h.symm, State.Holds]

/-- A claim of `u` stood in the same record of `s` with the same handle. -/
theorem from_old {j : RecNo} {d : Claim} (hd : u.Holds j d) :
    ∃ e, s.Holds j e ∧ d.handle = e.handle ∧ (j ≠ i → d = e) := by
  by_cases h : j = i
  · subst h
    exact ⟨c, w.was, (w.becomes d (w.holds_self.mp hd)).1, fun h => absurd rfl h⟩
  · exact ⟨d, (w.holds_of_ne h).mp hd, rfl, fun _ => rfl⟩

theorem legs_eq (t : TierNo) : (u.tier t).legs =
    if c.handle.tier = t ∧ o = none then (s.tier t).legs.filter fun k => k != c.handle.slot else (s.tier t).legs := by
  rw [w.tier]
  by_cases here : c.handle.tier = t
  · subst here
    simp only [if_true, w.legs, true_and]
  · rw [if_neg here, if_neg fun h => here h.1]

theorem legs_sublist (t : TierNo) : (u.tier t).legs.Sublist (s.tier t).legs := by
  rw [w.legs_eq]
  split_ifs
  · exact List.filter_sublist
  · exact List.Sublist.refl _

theorem tier_cfg (t : TierNo) : (u.tier t).cfg = (s.tier t).cfg := by
  rw [w.tier]
  split_ifs with here
  · rw [w.cfg, here]
  · rfl

theorem tier_fault (t : TierNo) : (u.tier t).fault = (s.tier t).fault := by
  rw [w.tier]
  split_ifs with here
  · rw [w.fault, here]
  · rfl

variable (h : s.TableExact)
include h

theorem handlesUnique : u.HandlesUnique := by
  intro j l d e hd he same
  obtain ⟨d', hd', dh, -⟩ := w.from_old hd
  obtain ⟨e', he', eh, -⟩ := w.from_old he
  exact h.handles j l d' e' hd' he' (by rw [← dh, ← eh, same])

/-- No other claim of `u` has the handle of the record that changes. -/
theorem eq_of_handle {j : RecNo} {d : Claim} (hd : s.Holds j d) (same : d.handle = c.handle) : j = i :=
  h.handles j i d c hd w.was same

theorem waitListExact : u.WaitListExact where
  nodup := w.waitList ▸ h.waitList.nodup.filter _
  exact j := by
    rw [w.waitList, List.mem_filter, h.waitList.exact, bne_iff_ne]
    refine ⟨fun ⟨⟨d, hd, waiting⟩, other⟩ => ⟨d, (w.holds_of_ne other).mpr hd, waiting⟩, fun ⟨d, hd, waiting⟩ => ?_⟩
    have other : j ≠ i := by
      rintro rfl
      exact (w.becomes d (w.holds_self.mp hd)).2 waiting
    exact ⟨⟨d, (w.holds_of_ne other).mp hd, waiting⟩, other⟩
  ordered := by
    rw [w.waitList]
    refine (h.waitList.ordered.filter _).imp_of_mem fun {a b} ha hb le d e hd he => ?_
    have ha' := bne_iff_ne.mp (List.mem_filter.mp ha).2
    have hb' := bne_iff_ne.mp (List.mem_filter.mp hb).2
    exact le d e ((w.holds_of_ne ha').mp hd) ((w.holds_of_ne hb').mp he)

theorem legQueuesExact : u.LegQueuesExact where
  nodup t := (h.legQueues.nodup t).sublist (w.legs_sublist t)
  exact t k := by
    have old := h.legQueues.exact t k
    rw [w.legs_eq]
    constructor
    · intro hk
      have hk' : k ∈ (s.tier t).legs := by
        split_ifs at hk
        · exact List.mem_of_mem_filter hk
        · exact hk
      obtain ⟨j, d, hd, handle⟩ := old.mp hk'
      by_cases same : j = i
      · subst same
        obtain rfl : c = d := Option.some.inj (w.was.symm.trans hd)
        cases ho : o with
        | none =>
          rw [handle, if_pos ⟨rfl, ho⟩, List.mem_filter] at hk
          simp at hk
        | some e => exact ⟨j, e, w.holds_self.mpr ho, (w.becomes e ho).1.trans handle⟩
      · exact ⟨j, d, (w.holds_of_ne same).mpr hd, handle⟩
    · rintro ⟨j, d, hd, handle⟩
      obtain ⟨e, he, same, -⟩ := w.from_old hd
      have hk := old.mpr ⟨j, e, he, same ▸ handle⟩
      split_ifs with gone
      · refine List.mem_filter.mpr ⟨hk, bne_iff_ne.mpr fun slot => ?_⟩
        obtain rfl := w.eq_of_handle h he (by
          rw [← same, handle, ← gone.1, slot])
        rw [w.holds_self, gone.2] at hd
        cases hd
      · exact hk
  behindHead t k hk j d hd handle := by
    have hk' := (w.legs_sublist t).tail.subset hk
    by_cases same : j = i
    · subst same
      have ho := w.holds_self.mp hd
      have behind := h.slot_not_behind (w.head (by simp [ho]))
      rw [← (w.becomes d ho).1, handle] at behind
      exact absurd hk' behind
    · exact h.legQueues.behindHead t k hk' j d ((w.holds_of_ne same).mp hd) handle

theorem tableExact : u.TableExact :=
  ⟨w.handlesUnique h, w.waitListExact h, w.legQueuesExact h⟩

theorem mailboxesExact (hm : s.MailboxesExact) : u.MailboxesExact where
  bound j d hd := by
    by_cases same : j = i
    · subst same
      have ho := w.holds_self.mp hd
      rw [(w.becomes d ho).1]
      exact w.shown d ho
    · have old := (w.holds_of_ne same).mp hd
      rw [w.mailbox _ fun handle => same (w.eq_of_handle h old handle)]
      exact hm.bound j d old
  vacant a none := by
    by_cases same : a = c.handle
    · subst same
      refine w.free (Option.eq_none_iff_forall_ne_some.mpr fun d ho => ?_)
      exact none i d (w.holds_self.mpr ho) (w.becomes d ho).1
    · rw [w.mailbox a same]
      refine hm.vacant a fun j d hd handle => ?_
      have other : j ≠ i := by
        rintro rfl
        obtain rfl : c = d := Option.some.inj (w.was.symm.trans hd)
        exact same handle.symm
      exact none j d ((w.holds_of_ne other).mpr hd) handle

end State.Rewrite

end Sys2Proof.Machine
end

section
/-! SUPPORT. What the active claims determine, after a change of one record or of WAITING claims alone. -/

namespace Sys2Proof.Machine

/-! ### Active claims that stay -/

theorem hydDrawn_of_waiting {c : Claim} (h : c.phase = .waiting) : hydDrawn (some c) = 0 := by
  simp [hydDrawn, Claim.grant?_eq_none.mpr h]

theorem slewDrawn_of_waiting {c : Claim} (h : c.phase = .waiting) : slewDrawn (some c) = 0 := by
  simp [slewDrawn, Claim.grant?_eq_none.mpr h]

/-- Two records with the same active claim, if any, draw the same. -/
theorem drawn_congr {o o' : Option Claim} (h : ∀ d, d.phase ≠ .waiting → (o = some d ↔ o' = some d)) :
    hydDrawn o = hydDrawn o' ∧ slewDrawn o = slewDrawn o' := by
  have none_of (x : Option Claim) (no : ∀ d, d.phase ≠ .waiting → x ≠ some d) : hydDrawn x = 0 ∧ slewDrawn x = 0 := by
    cases x with
    | none => exact ⟨rfl, rfl⟩
    | some d =>
      have waiting : d.phase = .waiting := not_not.mp fun active => no d active rfl
      exact ⟨hydDrawn_of_waiting waiting, slewDrawn_of_waiting waiting⟩
  by_cases some : ∃ d, d.phase ≠ .waiting ∧ o = some d
  · obtain ⟨d, active, ho⟩ := some
    rw [ho, (h d active).mp ho]
    exact ⟨rfl, rfl⟩
  · have no (d : Claim) (active : d.phase ≠ .waiting) : o ≠ Option.some d := fun ho => some ⟨d, active, ho⟩
    obtain ⟨h1, h2⟩ := none_of o no
    obtain ⟨h3, h4⟩ := none_of o' fun d active ho => no d active ((h d active).mpr ho)
    exact ⟨h1.trans h3.symm, h2.trans h4.symm⟩

theorem State.spaceRecord_congr {s u : State} {t : TierNo} (cfg : (u.tier t).cfg = (s.tier t).cfg)
    (standing : (u.tier t).standing = (s.tier t).standing) (arc : u.activeArc t = s.activeArc t) :
    u.spaceRecord t = s.spaceRecord t := by
  rw [State.spaceRecord_eq, State.spaceRecord_eq, Tier.placed, Tier.placed, cfg, standing, arc]

/-- The active claims are those of `s`: what they determine stays. -/
theorem State.ActiveSafe.of_actives {s u : State} (ha : s.ActiveSafe) (hs : s.TableExact) (hu : u.TableExact)
    (actives : ∀ j d, d.phase ≠ .waiting → (u.Holds j d ↔ s.Holds j d)) (mode : u.mode = s.mode)
    (permit : u.permit = s.permit) (holds : u.holds = s.holds) (ceilings : u.ceilings = s.ceilings)
    (hyd : u.hyd = s.hyd) (slew : u.slew = s.slew)
    (tiers : ∀ t, (u.tier t).cfg = (s.tier t).cfg ∧ (u.tier t).standing = (s.tier t).standing ∧
      (u.tier t).leaseRunning = (s.tier t).leaseRunning) : u.ActiveSafe := by
  have tierHas (t : TierNo) {p : Phase → Bool} (hp : p .waiting = false) : u.TierHas t p ↔ s.TierHas t p := by
    refine exists_congr fun j => exists_congr fun d => and_congr_left fun ⟨_, hd⟩ => actives j d fun waiting => ?_
    rw [waiting, hp] at hd
    cases hd
  have granted (j : RecNo) (d : Claim) {g : Grant} (hd : u.Holds j d) (hg : d.phase = .granted g) : s.Holds j d :=
    (actives j d (by simp [hg])).mp hd
  have drawn (j : RecNo) := drawn_congr fun d active => actives j d active
  have arcs (t : TierNo) : u.activeArc t = s.activeArc t := Option.ext fun a => by
    rw [hu.activeArc_iff, hs.activeArc_iff]
    refine exists_congr fun j => exists_congr fun d => exists_congr fun g => and_congr_left fun ⟨_, hg, _⟩ =>
      actives j d (Claim.active_of_grant? hg)
  have space (t : TierNo) := State.spaceRecord_congr (tiers t).1 (tiers t).2.1 (arcs t)
  exact
    { permit := fun t => by
        rw [tierHas t rfl, ← ha.permit, State.permitLine, permit, State.permitLine]
      runs := fun t => by rw [tierHas t rfl, ← ha.runs, (tiers t).2.2]
      grantedOnlyInRun := fun j d g hd hg => mode ▸ ha.grantedOnlyInRun j d g (granted j d hd hg) hg
      pools :=
        { hyd := by rw [hyd, ha.pools.hyd]; exact congrArg List.sum (List.map_congr_left fun j _ => (drawn j).1.symm)
          slew := by rw [slew, ha.pools.slew]; exact congrArg List.sum (List.map_congr_left fun j _ => (drawn j).2.symm)
          bounded := by rw [hyd, slew]; exact ha.pools.bounded }
      holds := fun j d g k a hd hg hk =>
        ha.holds j d g k a (granted j d hd hg) hg (by rwa [State.hold, holds] at hk)
      ceilings := fun j d g hd hg =>
        ceilings ▸ ha.ceilings j d g ((actives j d (Claim.active_of_grant? hg)).mp hd) hg
      space := fun config t v a b ne hta hvb =>
        ha.space (mode ▸ config) t v a b ne (space t ▸ hta) (space v ▸ hvb) }

/-! ### One active claim changes -/

namespace State.Rewrite
variable {s u : State} {i : RecNo} {c : Claim} {o : Option Claim} {r : Tier} (w : s.Rewrite u i c o r)
include w

theorem resetHeld : u.resetHeld = s.resetHeld := (congrArg State.resetHeld w.rest :)
theorem stopnLow : u.stopnLow = s.stopnLow := (congrArg State.stopnLow w.rest :)
theorem mode : u.mode = s.mode := (congrArg State.mode w.rest :)
theorem globals : u.globals = s.globals := (congrArg State.globals w.rest :)
theorem ceilings : u.ceilings = s.ceilings := (congrArg State.ceilings w.rest :)
theorem holds : u.holds = s.holds := (congrArg State.holds w.rest :)
theorem capture : u.capture = s.capture := (congrArg State.capture w.rest :)
theorem second : u.second = s.second := (congrArg State.second w.rest :)
theorem flags : u.flags = s.flags := (congrArg State.flags w.rest :)
theorem enables : u.enables = s.enables := (congrArg State.enables w.rest :)
theorem attn : u.attn = s.attn := (congrArg State.attn w.rest :)
theorem links : u.links = s.links := (congrArg State.links w.rest :)
theorem hyd_capacity : u.hyd.capacity = s.hyd.capacity := (congrArg (fun v => v.hyd.capacity) w.rest :)
theorem slew_capacity : u.slew.capacity = s.slew.capacity := (congrArg (fun v => v.slew.capacity) w.rest :)

theorem tier_self : u.tier c.handle.tier = r := by
  rw [w.tier, if_pos rfl]

theorem tier_of_ne {t : TierNo} (h : c.handle.tier ≠ t) : u.tier t = s.tier t := by
  rw [w.tier, if_neg h]

variable (h : s.TableExact)
include h

theorem activeArc_of_ne {t : TierNo} (other : c.handle.tier ≠ t) : u.activeArc t = s.activeArc t := Option.ext fun a => by
  rw [(w.tableExact h).activeArc_iff, h.activeArc_iff]
  refine exists_congr fun j => exists_congr fun d => exists_congr fun g => and_congr_left fun ⟨tier, _, _⟩ => ?_
  by_cases same : j = i
  · subst same
    refine iff_of_false (fun hd => other ?_) fun hd => other ?_
    · rw [← tier, (w.becomes d (w.holds_self.mp hd)).1]
    · rw [← tier, ← Option.some.inj (w.was.symm.trans hd)]
  · exact w.holds_of_ne same

theorem spaceRecord_of_ne {t : TierNo} (other : c.handle.tier ≠ t) : u.spaceRecord t = s.spaceRecord t :=
  State.spaceRecord_congr (w.tier_cfg t) (by rw [w.tier_of_ne other]) (w.activeArc_of_ne h other)

variable (head : (s.tier c.handle.tier).legs.head? = some c.handle.slot)
include head

/-- The other claims of the tier are WAITING. -/
theorem waiting_of_ne {j : RecNo} {d : Claim} (hd : u.Holds j d) (tier : d.handle.tier = c.handle.tier) (other : j ≠ i) :
    d.phase = .waiting :=
  h.waiting_of_head w.was head ((w.holds_of_ne other).mp hd) tier other

/-- Of its tier's claims the one that changes alone decides what active phases there are. -/
theorem tierHas_iff (t : TierNo) {p : Phase → Bool} (hp : p .waiting = false) :
    u.TierHas t p ↔ if c.handle.tier = t then o.any (fun d => p d.phase) = true else s.TierHas t p := by
  split_ifs with here
  · rw [Option.any_eq_true]
    refine ⟨fun ⟨j, d, hd, tier, hpd⟩ => ?_, fun ⟨d, ho, hpd⟩ =>
      ⟨i, d, w.holds_self.mpr ho, by rw [(w.becomes d ho).1, here], hpd⟩⟩
    by_cases same : j = i
    · subst same
      exact ⟨d, w.holds_self.mp hd, hpd⟩
    · rw [w.waiting_of_ne h head hd (tier.trans here.symm) same, hp] at hpd
      cases hpd
  · refine exists_congr fun j => exists_congr fun d => and_congr_left fun ⟨tier, _⟩ => ?_
    by_cases same : j = i
    · subst same
      refine iff_of_false (fun hd => here ?_) fun hd => here ?_
      · rw [← tier, (w.becomes d (w.holds_self.mp hd)).1]
      · rw [← tier, ← Option.some.inj (w.was.symm.trans hd)]
    · exact w.holds_of_ne same

/-- The new space record of the tier is the arc of the claim that changes, or the standing arc where that is gone. -/
theorem spaceRecord_self {a : Arc} (ha : u.spaceRecord c.handle.tier = some a) :
    (∃ d g, o = some d ∧ d.grant? = some g ∧ g.arc = a) ∨ (o = none ∧ r.standing = some a) := by
  rw [State.spaceRecord_eq, w.tier_self] at ha
  split_ifs at ha
  have old (b : Arc) := (w.tableExact h).activeArc_iff (t := c.handle.tier) (a := b)
  cases found : u.activeArc c.handle.tier with
  | some b =>
    rw [found, Option.some_or, Option.some.injEq] at ha
    obtain ⟨j, d, g, hd, tier, hg, arc⟩ := (old b).mp found
    by_cases same : j = i
    · subst same
      exact .inl ⟨d, g, w.holds_self.mp hd, hg, arc.trans ha⟩
    · exact absurd (w.waiting_of_ne h head hd tier same) (Claim.active_of_grant? hg)
  | none =>
    rw [found, Option.none_or] at ha
    cases ho : o with
    | none => exact .inr ⟨rfl, ha⟩
    | some d =>
      obtain ⟨handle, active⟩ := w.becomes d ho
      obtain ⟨g, hg⟩ := Claim.grant?_isSome active
      rw [(old g.arc).mpr ⟨i, d, g, w.holds_self.mpr ho, by rw [handle], hg, rfl⟩] at found
      cases found

theorem activeSafe (ha : s.ActiveSafe)
    (permit : ∀ t, u.permitLine t = if c.handle.tier = t then o.any (fun d => d.phase.permits) else s.permitLine t)
    (runs : r.leaseRunning = o.any fun d => d.phase.runs)
    (granted : ∀ d g, o = some d → d.phase = .granted g →
      s.mode = .run ∧ ∀ k a, s.hold k = some a → g.arc.overlaps a = false)
    (hyd : u.hyd.committed + hydDrawn (some c) = s.hyd.committed + hydDrawn o)
    (slew : u.slew.committed + slewDrawn (some c) = s.slew.committed + slewDrawn o)
    (bounded : u.hyd.committed ≤ 4095 ∧ u.slew.committed ≤ 4095)
    (ceilings : ∀ d g, o = some d → d.grant? = some g → g.hi ≤ ceilingOver s.ceilings g.arc)
    (space : s.mode ≠ .config → ∀ d g, o = some d → d.grant? = some g → s.clearOfOthers c.handle.tier g.arc = true)
    (standing : s.mode ≠ .config → ∀ a, o = none → r.standing = some a → s.clearOfOthers c.handle.tier a = true) :
    u.ActiveSafe where
  permit t := by
    rw [permit, w.tierHas_iff h head t rfl, ← ha.permit]
    split_ifs <;> rfl
  runs t := by
    rw [w.tierHas_iff h head t rfl, ← ha.runs, w.tier, ← runs]
    split_ifs <;> rfl
  grantedOnlyInRun j d g hd hg := by
    rw [w.mode]
    by_cases same : j = i
    · subst same
      exact (granted d g (w.holds_self.mp hd) hg).1
    · exact ha.grantedOnlyInRun j d g ((w.holds_of_ne same).mp hd) hg
  pools := by
    have old (j : RecNo) (other : j ≠ i) : s.record j = u.record j := by rw [w.record, if_neg other.symm]
    have self : u.record i = o := by rw [w.record, if_pos rfl]
    have hydSum := sum_finRange_update (i := i) (f := fun j => hydDrawn (s.record j)) (g := fun j => hydDrawn (u.record j))
      fun j other => by rw [old j other]
    have slewSum := sum_finRange_update (i := i) (f := fun j => slewDrawn (s.record j))
      (g := fun j => slewDrawn (u.record j)) fun j other => by rw [old j other]
    simp only [self, show s.record i = some c from w.was, ← ha.pools.hyd, ← ha.pools.slew] at hydSum slewSum
    exact ⟨by omega, by omega, bounded⟩
  holds j d g k a hd hg hk := by
    have hk' : s.hold k = some a := by rwa [State.hold, w.holds] at hk
    by_cases same : j = i
    · subst same
      exact (granted d g (w.holds_self.mp hd) hg).2 k a hk'
    · exact ha.holds j d g k a ((w.holds_of_ne same).mp hd) hg hk'
  ceilings j d g hd hg := by
    rw [w.ceilings]
    by_cases same : j = i
    · subst same
      exact ceilings d g (w.holds_self.mp hd) hg
    · exact ha.ceilings j d g ((w.holds_of_ne same).mp hd) hg
  space config := by
    rw [w.mode] at config
    have clear {a : Arc} (ha : u.spaceRecord c.handle.tier = some a) : s.clearOfOthers c.handle.tier a = true := by
      rcases w.spaceRecord_self h head ha with ⟨d, g, ho, hg, rfl⟩ | ⟨ho, hr⟩
      · exact space config d g ho hg
      · exact standing config a ho hr
    intro t v a b ne hta hvb
    by_cases ht : c.handle.tier = t
    · subst ht
      rw [w.spaceRecord_of_ne h ne] at hvb
      exact State.clearOfOthers_iff.mp (clear hta) v b ne.symm hvb
    · rw [w.spaceRecord_of_ne h ht] at hta
      by_cases hv : c.handle.tier = v
      · subst hv
        rw [Arc.overlaps_comm]
        exact State.clearOfOthers_iff.mp (clear hvb) t a ne hta
      · rw [w.spaceRecord_of_ne h hv] at hvb
        exact ha.space config t v a b ne hta hvb

end State.Rewrite

/-! ### The whole invariant -/

/-- The wait list and the scan state do not name an active claim's record. -/
theorem State.SafeIn.unnamed_of_active {s : State} {k : Underway} {i : RecNo} {c : Claim} (h : s.SafeIn k)
    (hc : s.Holds i c) (active : c.phase ≠ .waiting) :
    s.waitList.filter (fun j => j != i) = s.waitList ∧ (s.unmark i).scan = s.scan := by
  have out : i ∉ s.waitList := fun mem => by
    obtain ⟨d, hd, waiting⟩ := (h.table.waitList.exact i).mp mem
    exact active (Option.some.inj (hc.symm.trans hd) ▸ waiting)
  have unmarked : s.marked i = false := by
    rw [← Bool.not_eq_true]
    exact fun marked => out (h.marks.marks i marked)
  refine ⟨List.filter_eq_self.mpr fun j hj => bne_iff_ne.mpr fun e => out (e ▸ hj), ?_⟩
  have same : s.scan.marks.set i false = s.scan.marks := by
    refine Vector.ext fun j hj => ?_
    rw [Vector.getElem_set]
    split_ifs with e
    · subst e; exact unmarked.symm
    · rfl
  rw [State.unmark, same]

namespace State.Rewrite
variable {s u : State} {i : RecNo} {c : Claim} {o : Option Claim} {r : Tier} (w : s.Rewrite u i c o r)
include w

theorem safeIn {k : Underway} (h : s.SafeIn k) (active : u.ActiveSafe) (inRange : r.InRange)
    (claim : ∀ d, o = some d → d.InRange) (placed : (s.tier c.handle.tier).placed = true → r.placed = true)
    (stopped : 1 ≤ r.lease → r.leaseRunning = true)
    (running : r.leaseRunning = true → 1 ≤ r.lease ∨ k.late c.handle.tier)
    (frozen : ∀ d, o = some d → r.fault.isSome → (∃ g, d.phase = .frozen g) ∨ k.failing c.handle.tier)
    (faulted : ∀ d g, o = some d → d.phase = .frozen g → r.fault.isSome) (waits : c.phase = .waiting → k.scan)
    (attention : k.attention ∨
      u.hyd = s.hyd ∧ u.slew = s.slew ∧ r.placed = (s.tier c.handle.tier).placed) :
    u.SafeIn k := by
  have from_old' {j : RecNo} {d : Claim} (hd : u.Holds j d) : (j = i ∧ o = some d) ∨ (j ≠ i ∧ s.Holds j d) := by
    by_cases same : j = i
    · subst same; exact .inl ⟨rfl, w.holds_self.mp hd⟩
    · exact .inr ⟨same, (w.holds_of_ne same).mp hd⟩
  have tier_self (d : Claim) (ho : o = some d) : u.tier d.handle.tier = r := by rw [(w.becomes d ho).1, w.tier_self]
  exact
    { high := w.resetHeld.trans h.high
      links := w.links.trans h.links
      table := w.tableExact h.table
      mailboxes := w.mailboxesExact h.table h.mailboxes
      active := active
      countdowns :=
        { stopped := fun t => by
            rw [w.tier]
            split_ifs
            · exact stopped
            · exact h.countdowns.stopped t
          running := fun t => by
            rw [w.tier]
            split_ifs with here
            · exact here ▸ running
            · exact h.countdowns.running t }
      faults :=
        { frozen := fun j d hd hf => by
            rcases from_old' hd with ⟨rfl, ho⟩ | ⟨-, hd⟩
            · rw [tier_self d ho] at hf
              rw [(w.becomes d ho).1]
              exact frozen d ho hf
            · exact h.faults.frozen j d hd (by rwa [w.tier_fault] at hf)
          faulted := fun j d g hd hg => by
            rcases from_old' hd with ⟨rfl, ho⟩ | ⟨-, hd⟩
            · rw [tier_self d ho]
              exact faulted d g ho hg
            · rw [w.tier_fault]
              exact h.faults.faulted j d g hd hg }
      configEmpty := fun config => by
        have none := h.configEmpty (w.mode ▸ config) i
        rw [show s.record i = some c from w.was] at none
        cases none
      placed :=
        { tiers := fun config t => by
            rw [w.tier_cfg]
            intro enabled
            have old := h.placed.tiers (w.mode ▸ config) t enabled
            rw [w.tier]
            split_ifs with here
            · exact placed (here ▸ old)
            · exact old
          claims := fun j d hd => by
            obtain ⟨e, he, handle, -⟩ := w.from_old hd
            rw [w.tier_cfg, handle]
            exact h.placed.claims j e he }
      settings :=
        { configs := fun t => w.tier_cfg t ▸ h.settings.configs t
          globals := w.globals ▸ h.settings.globals
          ceilings := w.ceilings ▸ h.settings.ceilings
          capacities := by
            rw [w.hyd_capacity, w.slew_capacity]
            exact h.settings.capacities
          holds := fun j a ha => h.settings.holds j a (by rwa [State.hold, w.holds] at ha) }
      records :=
        { tiers := fun t => by
            rw [w.tier]
            split_ifs
            · exact inRange
            · exact h.records.tiers t
          claims := fun j d hd => by
            rcases from_old' hd with ⟨-, ho⟩ | ⟨-, hd⟩
            · exact claim d ho
            · exact h.records.claims j d hd }
      capture := fun second => by
        rw [w.capture]
        exact h.capture (w.second.symm.trans second)
      marks :=
        { idle := fun idle => by
            rw [w.scan] at idle ⊢
            have old := h.marks.idle idle
            have none : (Vector.replicate 64 false).set i false = Vector.replicate 64 false :=
              Vector.ext fun j hj => by simp
            simp only [State.unmark, old, Scan.idle, none]
          marks := fun j marked => by
            rw [State.marked, w.scan] at marked
            have := s.unmark_marked i j
            simp only [State.marked] at this marked
            rw [this, Bool.and_eq_true, decide_eq_true_eq] at marked
            rw [w.waitList, List.mem_filter, bne_iff_ne]
            exact ⟨h.marks.marks j marked.1, marked.2.symm⟩ }
      members := by
        by_cases waiting : c.phase = .waiting
        · exact .inl (waits waiting)
        · obtain ⟨list, scan⟩ := h.unnamed_of_active w.was waiting
          rw [← w.waitList] at list
          rw [← w.scan] at scan
          refine h.members.imp_right fun members running => ?_
          rw [scan] at running
          have same : u.membersLeft = s.membersLeft := by
            unfold State.membersLeft State.marked
            rw [list, scan]
          rw [same, members running]
      attention := by
        rcases attention with opened | ⟨hyd, slew, standing⟩
        · exact .inl opened
        · refine h.attention.imp_right fun follows => follows.congr ?_ w.flags
            w.enables w.attn w.resetHeld
          refine State.conditions_congr w.mode w.stopnLow w.capture
            w.second (by rw [hyd, slew]) fun t => ?_
          rw [w.tier]
          split_ifs with here
          · subst here
            rw [Tier.shows, Tier.shows, w.cfg, w.fault, standing]
          · rfl }

end State.Rewrite

end Sys2Proof.Machine
end

section
/-! SUPPORT. The shared operations on one claim keep what holds during an event: stop, freeze, trim. -/

namespace Sys2Proof.Machine

/-! ### Fewer open ends -/

theorem State.SafeIn.mono {s : State} {k k' : Underway} (h : s.SafeIn k) (links : k.links = k'.links)
    (late : ∀ t, k.late t → k'.late t) (failing : ∀ t, k.failing t → k'.failing t) (scan : k.scan → k'.scan)
    (attention : k.attention → k'.attention) : s.SafeIn k' :=
  { h with
    links := h.links.trans links
    countdowns := ⟨h.countdowns.stopped, fun t running => (h.countdowns.running t running).imp_right (late t)⟩
    faults := ⟨fun i c hc hf => (h.faults.frozen i c hc hf).imp_right (failing _), h.faults.faulted⟩
    members := h.members.imp_left scan
    attention := h.attention.imp_left attention }

/-! ### Arcs that take no more space -/

/-- The arc `a` takes no more space than `b`: it is clear of what `b` is clear of, and no ceiling over it is lower. -/
structure Arc.Narrows (a b : Arc) : Prop where
  clear : ∀ x, b.overlaps x = false → a.overlaps x = false
  ceiling : ∀ v, ceilingOver v b ≤ ceilingOver v a

theorem Arc.Narrows.refl (a : Arc) : a.Narrows a := ⟨fun _ => id, fun _ => Nat.le_refl _⟩

theorem Arc.narrows_of_within {a b : Arc} (ha : a.InRange) (hb : b.InRange) (h : a.within b = true) : a.Narrows b :=
  ⟨fun _ => Arc.clear_of_within ha.length_pos h, fun _ => ceilingOver_of_within hb.start_lt ha.start_lt ha.length_pos h⟩

section Claims
variable {s u : State} {k : Underway} {i : RecNo} {c : Claim} (h : s.SafeIn k)
include h

/-- A claim stands outside CONFIG alone (R20). -/
theorem State.SafeIn.not_config (hc : s.Holds i c) : s.mode ≠ .config := fun config => by
  have none := h.configEmpty config i
  rw [show s.record i = some c from hc] at none
  cases none

theorem State.SafeIn.enabled_placed (hc : s.Holds i c) :
    (s.tier c.handle.tier).cfg.enabled = true ∧ (s.tier c.handle.tier).placed = true :=
  ⟨h.placed.claims i c hc, h.placed.tiers (h.not_config hc) _ (h.placed.claims i c hc)⟩

/-- The arc of an active claim is its tier's space record, so it is clear of the others' (R34, R71). -/
theorem State.SafeIn.clear_of_active (hc : s.Holds i c) {g : Grant} (hg : c.grant? = some g) :
    s.clearOfOthers c.handle.tier g.arc = true := by
  have space : s.spaceRecord c.handle.tier = some g.arc := by
    rw [State.spaceRecord_eq, if_pos (h.enabled_placed hc), h.table.activeArc_iff.mpr ⟨i, c, g, hc, rfl, hg, rfl⟩]
    rfl
  rw [State.clearOfOthers_iff]
  exact fun v b other hb => h.active.space (h.not_config hc) _ v _ b other.symm space hb

omit h in
theorem State.clearOfOthers_narrows {t : TierNo} {a b : Arc} (narrow : a.Narrows b) (clear : s.clearOfOthers t b = true) :
    s.clearOfOthers t a = true := by
  rw [State.clearOfOthers_iff] at clear ⊢
  exact fun v x other hx => narrow.clear x (clear v x other hx)

/-- Of the phases of its tier's claims an active claim's alone counts (R32). -/
theorem State.SafeIn.tierHas_of_active (hc : s.Holds i c) (active : c.phase ≠ .waiting) {p : Phase → Bool}
    (hp : p .waiting = false) : s.TierHas c.handle.tier p ↔ p c.phase = true := by
  refine ⟨fun ⟨j, d, hd, tier, hpd⟩ => ?_, fun hpc => ⟨i, c, hc, rfl, hpc⟩⟩
  by_cases same : j = i
  · subst same
    rwa [Option.some.inj (hc.symm.trans hd)]
  · rw [h.table.waiting_of_head hc (h.table.head_of_active hc active) hd tier same, hp] at hpd
    cases hpd

theorem State.SafeIn.permitLine_of_active (hc : s.Holds i c) (active : c.phase ≠ .waiting) :
    s.permitLine c.handle.tier = c.phase.permits := by
  rw [Bool.eq_iff_iff, h.active.permit, h.tierHas_of_active hc active rfl]

theorem State.SafeIn.leaseRunning_of_active (hc : s.Holds i c) (active : c.phase ≠ .waiting) :
    (s.tier c.handle.tier).leaseRunning = c.phase.runs := by
  rw [Bool.eq_iff_iff, h.active.runs, h.tierHas_of_active hc active rfl]

/-! ### An active claim in a new phase -/

/-- A stop, a freeze or a trim: the claim keeps its grant but for an arc that takes no more space (R47 to R49). -/
theorem State.SafeIn.rephase {ph : Phase} {r : Tier} {g : Grant} {a : Arc} (hc : s.Holds i c) (hg : c.grant? = some g)
    (hph : ({ c with phase := ph } : Claim).grant? = some { g with arc := a })
    (narrow : a.Narrows g.arc) (range : a.InRange) (down : ph.permits = true → c.phase.permits = true)
    (record : ∀ j, u.record j = if i = j then some { c with phase := ph } else s.record j)
    (tiers : ∀ t, u.tier t = if c.handle.tier = t then r else s.tier t)
    (permit : ∀ t, u.permitLine t = if c.handle.tier = t then ph.permits else s.permitLine t)
    (mailbox : ∀ b, b ≠ c.handle → u.mailbox b = s.mailbox b)
    (shown : (u.mailbox c.handle).state = ({ c with phase := ph } : Claim).state ∧
      (u.mailbox c.handle).result = .granted)
    (rest : u = { s with records := u.records, tiers := u.tiers, permit := u.permit, mailboxes := u.mailboxes })
    (tier : r = { s.tier c.handle.tier with lease := r.lease, leaseRunning := ph.runs })
    (lease : r.lease ≤ (s.tier c.handle.tier).lease) (stopped : 1 ≤ r.lease → ph.runs = true)
    (running : ph.runs = true → 1 ≤ r.lease ∨ k.late c.handle.tier)
    (frozen : (s.tier c.handle.tier).fault.isSome → (∃ g, ph = .frozen g) ∨ k.failing c.handle.tier)
    (faulted : ∀ g, ph = .frozen g → (s.tier c.handle.tier).fault.isSome) : u.SafeIn k := by
  have active := Claim.active_of_grant? hg
  have old := h.records.claims i c hc
  have oldTier := h.records.tiers c.handle.tier
  have oldGrant := old.grant g hg
  have fault : r.fault = (s.tier c.handle.tier).fault := (congrArg Tier.fault tier :)
  have runs : r.leaseRunning = ph.runs := congrArg Tier.leaseRunning tier
  have drawn : hydDrawn (some { c with phase := ph }) = hydDrawn (some c) ∧
      slewDrawn (some { c with phase := ph }) = slewDrawn (some c) := by
    simp [hydDrawn, slewDrawn, hg, hph]
  have hyd : u.hyd = s.hyd := (congrArg State.hyd rest :)
  have slew : u.slew = s.slew := (congrArg State.slew rest :)
  have scan : u.scan = s.scan := (congrArg State.scan rest :)
  have list : u.waitList = s.waitList := (congrArg State.waitList rest :)
  have w : s.Rewrite u i c (some { c with phase := ph }) r :=
    { was := hc
      becomes := by rintro _ ⟨⟩; exact ⟨rfl, Claim.active_of_grant? hph⟩
      head := fun _ => h.table.head_of_active hc active
      record := record
      waitList := by rw [list, (h.unnamed_of_active hc active).1]
      scan := by rw [scan, (h.unnamed_of_active hc active).2]
      tier := tiers
      cfg := by rw [tier]
      fault := by rw [tier]
      legs := by rw [tier, if_neg nofun]
      mailbox := mailbox
      shown := by rintro _ ⟨⟩; rw [Claim.result_of_grant? hph]; exact shown
      free := nofun
      rest := by rw [hyd, slew, scan, list]; exact rest }
  refine w.safeIn h (w.activeSafe h.table (h.table.head_of_active hc active) h.active permit runs ?_
    (by rw [hyd, drawn.1]) (by rw [slew, drawn.2]) (by rw [hyd, slew]; exact h.active.pools.bounded) ?_ ?_ nofun)
    ?_ ?_ ?_ ?_ ?_ ?_ ?_ (fun waiting => absurd waiting active) (.inr ⟨hyd, slew, by rw [Tier.placed, tier, Tier.placed]⟩)
  · rintro _ g' ⟨⟩ granted
    obtain ⟨g0, was⟩ := (Phase.permits_iff _).mp (down ((Phase.permits_iff _).mpr ⟨g', granted⟩))
    have arc : g0 = g := Option.some.inj ((by simp [Claim.grant?, was] : c.grant? = some g0).symm.trans hg)
    have arc' : g' = { g with arc := a } := by
      simp only at granted
      subst granted
      exact Option.some.inj hph
    subst arc arc'
    exact ⟨h.active.grantedOnlyInRun i c g0 hc was, fun j x hx => narrow.clear x (h.active.holds i c g0 j x hc was hx)⟩
  · rintro _ g' ⟨⟩ hg'
    obtain rfl := Option.some.inj (hph.symm.trans hg')
    exact (h.active.ceilings i c g hc hg).trans (narrow.ceiling _)
  · rintro config _ g' ⟨⟩ hg'
    obtain rfl := Option.some.inj (hph.symm.trans hg')
    exact State.clearOfOthers_narrows narrow (h.clear_of_active hc hg)
  · rw [tier]
    exact { oldTier with lease := lease.trans oldTier.lease }
  · rintro _ ⟨⟩
    refine { old with grant := fun g' hg' => ?_ }
    obtain rfl := Option.some.inj (hph.symm.trans hg')
    exact { oldGrant with arc := range }
  · rw [tier]; exact id
  · rwa [runs]
  · rwa [runs]
  · rintro _ ⟨⟩
    rwa [fault]
  · rintro _ g' ⟨⟩
    rw [fault]
    exact faulted g'

/-- A stop (R47). -/
theorem State.SafeIn.stopRecord (i : RecNo) : (s.stopRecord i).SafeIn k := by
  by_cases granted : ∃ c g, s.record i = some c ∧ c.phase = .granted g
  · obtain ⟨c, g, hc, hg⟩ := granted
    rw [State.stopRecord_granted hc hg]
    have grant : c.grant? = some g := by simp [Claim.grant?, hg]
    have runs : (s.tier c.handle.tier).leaseRunning = true := by
      rw [h.leaseRunning_of_active hc (Claim.active_of_grant? grant), hg]; rfl
    refine h.rephase (r := s.tier c.handle.tier) (a := g.arc) hc grant rfl (.refl _)
      ((h.records.claims i c hc).grant g grant).arc (by simp [Phase.permits]) (fun j => s.setRecord_record i j _) (fun t => ?_)
      (fun t => State.setPermit_permitLine _ _ t _) (fun b other => ?_) ⟨?_, ?_⟩ rfl ?_ (Nat.le_refl _) (fun _ => rfl)
      (fun _ => h.countdowns.running _ runs) (fun fault => .inr ?_) nofun
    · split_ifs with here
      · rw [← here]; rfl
      · rfl
    · rw [State.post_mailbox, if_neg other.symm]; rfl
    · rw [State.post_mailbox, if_pos rfl]; rfl
    · rw [State.post_mailbox, if_pos rfl]
    · rw [Phase.runs, ← runs]
    · refine (h.faults.frozen i c hc fault).resolve_left fun ⟨g', frozen⟩ => ?_
      rw [hg] at frozen
      cases frozen
  · rw [State.stopRecord_other fun c g hc hg => granted ⟨c, g, hc, hg⟩]
    exact h

/-- A freeze of the head claim, after the fault kind is set (R48, R127). -/
theorem State.SafeIn.freezeWith {g : Grant} (hc : s.Holds i c) (hg : c.grant? = some g)
    (fault : (s.tier c.handle.tier).fault.isSome) : (s.freezeWith i c g).SafeIn k := by
  refine h.rephase (r := { s.tier c.handle.tier with lease := 0, leaseRunning := false }) (a := g.arc) hc hg rfl (.refl _)
    ((h.records.claims i c hc).grant g hg).arc (by simp [Phase.permits]) (fun j => s.freezeWith_record i j c g)
    (fun t => s.freezeWith_tier i c g t) (fun t => s.freezeWith_permitLine i c g t) (fun b other => ?_) ⟨?_, ?_⟩ rfl rfl
    (Nat.zero_le _) nofun (by simp [Phase.runs]) (fun _ => .inl ⟨g, rfl⟩) (fun _ _ => fault)
  · rw [State.freezeWith_mailbox, if_neg other.symm]
  · rw [State.freezeWith_mailbox, if_pos rfl]; rfl
  · rw [State.freezeWith_mailbox, if_pos rfl]

theorem State.SafeIn.freezeHead {t : TierNo} (fault : (s.tier t).fault.isSome) : (s.freezeHead t).SafeIn k := by
  unfold State.freezeHead
  split
  · exact h
  · next i c found =>
    obtain ⟨hc, rfl, -⟩ := h.table.headClaim_iff.mp found
    split
    · next g granted => exact h.freezeWith hc (by simp [Claim.grant?, granted]) fault
    · next g stopping => exact h.freezeWith hc (by simp [Claim.grant?, stopping]) fault
    · exact h
    · exact h

/-- A trim that changes the arc, but for its scan request (R49). -/
theorem State.SafeIn.trim {g : Grant} {a : Arc} {phase : Grant → Phase} (hc : s.Holds i c) (hg : c.phase = phase g)
    (trims : phase = .granted ∨ phase = .stopping) (narrow : a.Narrows g.arc) (range : a.InRange) :
    (s.setRecord i (some { c with phase := phase { g with arc := a } })).SafeIn k := by
  have same : (∀ x, ({ c with phase := phase x } : Claim).grant? = some x) ∧ (∀ x, (phase x).runs = true) ∧
      (∀ x, (phase x).permits = (phase g).permits) ∧ (∀ x, ({ c with phase := phase x } : Claim).state = c.state) ∧
      ∀ x y, phase x ≠ .frozen y := by
    rcases trims with rfl | rfl <;> simp [Claim.grant?, Phase.runs, Phase.permits, Claim.state, hg]
  obtain ⟨grant, runs, permits, state, alive⟩ := same
  have oldGrant : c.grant? = some g := by rw [← grant g, ← hg]
  have running : (s.tier c.handle.tier).leaseRunning = true := by
    rw [h.leaseRunning_of_active hc (Claim.active_of_grant? oldGrant), hg, runs]
  have oldActive := Claim.active_of_grant? oldGrant
  have shown := h.mailboxes.bound i c hc
  refine h.rephase (r := s.tier c.handle.tier) (a := a) hc oldGrant (grant _) narrow range
    (fun on => by rw [hg, ← permits]; exact on) (fun j => s.setRecord_record i j _) (fun t => ?_) (fun t => ?_)
    (fun b _ => rfl) ⟨?_, ?_⟩ rfl ?_ (Nat.le_refl _) (fun _ => runs _) (fun _ => h.countdowns.running _ running)
    (fun fault => .inr ?_) (fun x frozen => absurd frozen (alive _ x))
  · split_ifs with here
    · rw [← here]; rfl
    · rfl
  · split_ifs with here
    · subst here
      rw [State.setRecord_permitLine, h.permitLine_of_active hc oldActive, hg]
      exact (permits _).symm
    · rfl
  · exact shown.1.trans (state _).symm
  · rw [← Claim.result_of_grant? oldGrant]; exact shown.2
  · rw [runs, ← running]
  · refine (h.faults.frozen i c hc fault).resolve_left fun ⟨x, frozen⟩ => alive g x (hg ▸ frozen)

end Claims

end Sys2Proof.Machine
end

section
/-! SUPPORT. The shared operations that leave the table, and a grant, keep what holds during an event. -/

namespace Sys2Proof.Machine

section Claims
variable {s : State} {k : Underway} {i : RecNo} {c : Claim} (h : s.SafeIn k)
include h

/-! ### Leaving the table (R52, R53) -/

/-- A WAITING claim becomes FREE (R52). -/
theorem State.SafeIn.unbind (hc : s.Holds i c) (waiting : c.phase = .waiting) (r : Result) (hk : k.scan) :
    (s.unbind i c.handle r).SafeIn k := by
  have w : s.Rewrite (s.unbind i c.handle r) i c none
      { s.tier c.handle.tier with legs := (s.tier c.handle.tier).legs.filter fun j => j != c.handle.slot } :=
    { was := hc
      becomes := nofun
      head := fun no => absurd rfl no
      record := fun j => s.unbind_record i j c.handle r
      waitList := s.unbind_waitList i c.handle r
      scan := rfl
      tier := fun t => by
        rw [State.unbind_tier]
        split_ifs with here
        · rw [here]
        · rfl
      cfg := rfl
      fault := rfl
      legs := by rw [if_pos rfl]
      mailbox := fun b other => by rw [State.unbind_mailbox, if_neg other.symm]
      shown := nofun
      free := fun _ => by rw [State.unbind_mailbox, if_pos rfl]
      rest := rfl }
  have oldTier := h.records.tiers c.handle.tier
  have running := h.countdowns.running c.handle.tier
  refine w.safeIn h ?_ { oldTier with } nofun id (h.countdowns.stopped _) running nofun nofun (fun _ => hk)
    (.inr ⟨rfl, rfl, rfl⟩)
  refine h.active.of_actives h.table (w.tableExact h.table) (fun j d active => ?_) rfl rfl rfl rfl rfl rfl fun t => ?_
  · by_cases same : j = i
    · subst same
      refine iff_of_false (fun hd => ?_) fun hd => active (Option.some.inj (hc.symm.trans hd) ▸ waiting)
      cases w.holds_self.mp hd
    · exact w.holds_of_ne same
  · rw [w.tier]
    split_ifs with here
    · subst here; exact ⟨rfl, rfl, rfl⟩
    · exact ⟨rfl, rfl, rfl⟩

theorem State.SafeIn.retireWaiting (i : RecNo) (r : Result) (hk : k.scan) : (s.retireWaiting i r).SafeIn k := by
  unfold State.retireWaiting
  split
  · exact h
  · next c hc =>
    split_ifs with waiting
    · exact h.unbind hc ((Claim.isWaiting_iff c).mp waiting) r hk
    · exact h

/-- An active claim retires at a pose in range, its tier's new standing arc clear of the other tiers (R53). -/
theorem State.SafeIn.retireActive {g : Grant} (hc : s.Holds i c) (hg : c.grant? = some g) (r : Result) {p : Pose} {a : Arc}
    (pose : p.InRange) (arc : a.InRange) (clear : s.clearOfOthers c.handle.tier a = true) (hk : k.attention) :
    (s.retireActive i c.handle g r p a).SafeIn k := by
  rw [State.retireActive_eq]
  have active := Claim.active_of_grant? hg
  have head := h.table.head_of_active hc active
  have tiers (t : TierNo) : (s.withEnded i c.handle g r p a).tier t = _ := s.setTier_tier c.handle.tier t _
  have mailboxes (b : Handle) : (s.withEnded i c.handle g r p a).mailbox b = _ :=
    s.setMailbox_mailbox c.handle b ⟨.free, r, true⟩
  have w : s.Rewrite (s.withEnded i c.handle g r p a) i c none _ :=
    { was := hc
      becomes := nofun
      head := fun no => absurd rfl no
      record := fun j => s.setRecord_record i j none
      waitList := rfl
      scan := rfl
      tier := tiers
      cfg := rfl
      fault := rfl
      legs := by rw [if_pos rfl]
      mailbox := fun b other => by rw [mailboxes, if_neg other.symm]
      shown := nofun
      free := fun _ => by rw [mailboxes, if_pos rfl]
      rest := rfl }
  have oldTier := h.records.tiers c.handle.tier
  have drawn : hydDrawn (some c) = g.hydDraw ∧ slewDrawn (some c) = g.slewDraw := by
    simp [hydDrawn, slewDrawn, hg]
  have shares : g.hydDraw ≤ s.hyd.committed ∧ g.slewDraw ≤ s.slew.committed := by
    rw [← drawn.1, ← drawn.2, h.active.pools.hyd, h.active.pools.slew, ← show s.record i = some c from hc]
    exact ⟨List.single_le_sum (by simp) _ (List.mem_map.mpr ⟨i, List.mem_finRange i, rfl⟩),
      List.single_le_sum (by simp) _ (List.mem_map.mpr ⟨i, List.mem_finRange i, rfl⟩)⟩
  have bounded := h.active.pools.bounded
  refine w.safeIn h (w.activeSafe h.table head h.active (fun t => s.setPermit_permitLine c.handle.tier t false) rfl nofun
    ?_ ?_ ?_ nofun (fun _ => nofun) ?_) ?_ nofun (fun _ => rfl) nofun nofun nofun nofun (fun waiting => absurd waiting active)
    (.inl hk)
  · rw [drawn.1]; exact Nat.sub_add_cancel shares.1
  · rw [drawn.2]; exact Nat.sub_add_cancel shares.2
  · exact ⟨(Nat.sub_le _ _).trans bounded.1, (Nat.sub_le _ _).trans bounded.2⟩
  · rintro _ b - ⟨⟩
    exact clear
  · exact { oldTier with rest := pose, tracked := pose, standing := by rintro b ⟨⟩; exact arc, lease := Nat.zero_le _ }

/-! ### A grant (R75) -/

/-- A WAITING claim at the head of its tier's leg queue is granted what passes the tests of R71 to R73. -/
theorem State.SafeIn.grant {g : Grant} (hc : s.Holds i c) (waiting : c.phase = .waiting)
    (head : (s.tier c.handle.tier).legs.head? = some c.handle.slot) (run : s.mode = .run)
    (sound : (s.tier c.handle.tier).fault = none) (range : g.InRange) (ceiling : g.hi ≤ ceilingOver s.ceilings g.arc)
    (clear : s.clearOfOthers c.handle.tier g.arc = true)
    (holds : ∀ j a, s.hold j = some a → g.arc.overlaps a = false)
    (hyd : g.hydDraw = 0 ∨ s.hyd.committed + g.hydDraw ≤ s.hyd.capacity)
    (slew : g.slewDraw = 0 ∨ s.slew.committed + g.slewDraw ≤ s.slew.capacity) (scan : k.scan) (attention : k.attention) :
    (s.grant i c g).SafeIn k := by
  obtain ⟨u, written⟩ : ∃ u, u = s.grant i c g := ⟨_, rfl⟩
  rw [← written]
  rw [State.grant_eq] at written
  have permit (t : TierNo) : u.permitLine t = if c.handle.tier = t then true else s.permitLine t := by
    rw [written]; exact s.setPermit_permitLine c.handle.tier t true
  have mailbox (b : Handle) : u.mailbox b = if c.handle = b then ⟨.granted, .granted, true⟩ else s.mailbox b := by
    rw [written]; exact s.setMailbox_mailbox c.handle b _
  have pools : u.hyd.committed = s.hyd.committed + g.hydDraw ∧ u.slew.committed = s.slew.committed + g.slewDraw := by
    rw [written]; exact ⟨rfl, rfl⟩
  have w : s.Rewrite u i c (some { c with phase := .granted g })
      { s.tier c.handle.tier with lease := s.globals.leasePeriod, leaseRunning := true } :=
    { was := hc
      becomes := by rintro _ ⟨⟩; exact ⟨rfl, nofun⟩
      head := fun _ => head
      record := fun j => by rw [written]; exact s.setRecord_record i j _
      waitList := by rw [written]
      scan := by rw [written]; rfl
      tier := fun t => by rw [written]; exact s.setTier_tier c.handle.tier t _
      cfg := rfl
      fault := rfl
      legs := by rw [if_neg nofun]
      mailbox := fun b other => by rw [mailbox, if_neg other.symm]
      shown := by
        rintro _ ⟨⟩
        rw [mailbox, if_pos rfl]
        exact ⟨rfl, rfl⟩
      free := nofun
      rest := by rw [written] }
  have old := h.records.claims i c hc
  have oldTier := h.records.tiers c.handle.tier
  have capacities := h.settings.capacities
  have bounded := h.active.pools.bounded
  have period := h.settings.globals.leasePeriod
  refine w.safeIn h (w.activeSafe h.table head h.active permit rfl ?_ ?_ ?_
    ?_ ?_ ?_ nofun) { oldTier with lease := period.2 } ?_ id (fun _ => rfl) (fun _ => .inl period.1) ?_ ?_ (fun _ => scan)
    (.inl attention)
  · rintro _ g' ⟨⟩ ⟨⟩
    exact ⟨run, holds⟩
  · rw [hydDrawn_of_waiting waiting, pools.1]; rfl
  · rw [slewDrawn_of_waiting waiting, pools.2]; rfl
  · omega
  · rintro _ g' ⟨⟩ ⟨⟩
    exact ceiling
  · rintro _ _ g' ⟨⟩ ⟨⟩
    exact clear
  · rintro _ ⟨⟩
    exact { old with grant := by rintro _ ⟨⟩; exact range }
  · intro d _ fault
    rw [show _ = none from sound] at fault
    cases fault
  · rintro _ g' ⟨⟩ ⟨⟩

end Claims

end Sys2Proof.Machine
end

section
/-! SUPPORT. The shared operations outside the claim table keep what holds during an event: fault reports, scans, flags,
links, mailboxes. -/

namespace Sys2Proof.Machine

section Around
variable {s u : State} {k k' : Underway}

/-! ### The claims and tiers stay -/

/-- The claim records, the tiers and the committed totals are those of `s`; the rest is given. -/
theorem State.SafeIn.of_claims (h : s.SafeIn k)
    (same : u =
      { u with
        tiers := s.tiers, records := s.records, waitList := s.waitList, permit := s.permit,
        hyd := { u.hyd with committed := s.hyd.committed }, slew := { u.slew with committed := s.slew.committed } })
    (late : ∀ t, k.late t → k'.late t) (failing : ∀ t, k.failing t → k'.failing t)
    (high : u.resetHeld = false) (links : u.links = k'.links) (mailboxes : u.MailboxesExact)
    (granted : u.GrantedOnlyInRun) (empty : u.ConfigEmpty)
    (placed : u.mode ≠ .config → ∀ t, (s.tier t).cfg.enabled = true → (s.tier t).placed = true)
    (holds : u.HoldsRespected) (ceilings : u.CeilingsRespected) (space : u.SpaceSeparate) (settings : u.SettingsInRange)
    (capture : u.CaptureConsistent) (marks : u.MarksExact)
    (members : k'.scan ∨ (u.scan.running = true → u.membersLeft = true)) (attention : k'.attention ∨ u.AttentionFollows) :
    u.SafeIn k' where
  high := high
  links := links
  table := by
    rw [same]
    exact ⟨h.table.handles, ⟨h.table.waitList.nodup, h.table.waitList.exact, h.table.waitList.ordered⟩,
      ⟨h.table.legQueues.nodup, h.table.legQueues.exact, h.table.legQueues.behindHead⟩⟩
  mailboxes := mailboxes
  active :=
    { permit := by rw [same]; exact h.active.permit
      runs := by rw [same]; exact h.active.runs
      grantedOnlyInRun := granted
      pools := by rw [same]; exact ⟨h.active.pools.hyd, h.active.pools.slew, h.active.pools.bounded⟩
      holds := holds
      ceilings := ceilings
      space := space }
  countdowns := by
    rw [same]
    exact ⟨h.countdowns.stopped, fun t running => (h.countdowns.running t running).imp_right (late t)⟩
  faults := by
    rw [same]
    exact ⟨fun i c hc hf => (h.faults.frozen i c hc hf).imp_right (failing _), h.faults.faulted⟩
  configEmpty := empty
  placed :=
    { tiers := fun config t => by rw [same]; exact placed config t
      claims := by rw [same]; exact h.placed.claims }
  settings := settings
  records := by
    rw [same]
    exact ⟨h.records.tiers, h.records.claims⟩
  capture := capture
  marks := marks
  members := members
  attention := attention

/-- All that the invariants say of claims, tiers and settings is as in `s`; the rest is given. -/
theorem State.SafeIn.of_core (h : s.SafeIn k)
    (same : u =
      { u with
        mode := s.mode, tiers := s.tiers, globals := s.globals, ceilings := s.ceilings, records := s.records,
        mailboxes := s.mailboxes, waitList := s.waitList, holds := s.holds, permit := s.permit, hyd := s.hyd,
        slew := s.slew })
    (late : ∀ t, k.late t → k'.late t) (failing : ∀ t, k.failing t → k'.failing t) (high : u.resetHeld = false)
    (links : u.links = k'.links) (capture : u.CaptureConsistent) (marks : u.MarksExact)
    (members : k'.scan ∨ (u.scan.running = true → u.membersLeft = true)) (attention : k'.attention ∨ u.AttentionFollows) :
    u.SafeIn k' := by
  have hyd : u.hyd = s.hyd := (congrArg State.hyd same :)
  have slew : u.slew = s.slew := (congrArg State.slew same :)
  have mode : u.mode = s.mode := (congrArg State.mode same :)
  refine h.of_claims ?_ late failing high links ?_ ?_ ?_ (fun config => h.placed.tiers (mode ▸ config)) ?_ ?_ ?_ ?_
    capture marks members attention
  · rw [same]
  · rw [same]; exact ⟨h.mailboxes.bound, h.mailboxes.vacant⟩
  · rw [same]; exact h.active.grantedOnlyInRun
  · rw [same]; exact h.configEmpty
  · rw [same]; exact h.active.holds
  · rw [same]; exact h.active.ceilings
  · rw [same]; exact h.active.space
  · rw [same]
    exact ⟨h.settings.configs, h.settings.globals, h.settings.ceilings, h.settings.capacities, h.settings.holds⟩

/-- Only what the flags show or follow, the cursor and the queue are not as in `s`. -/
theorem State.SafeIn.of_quiet (h : s.SafeIn k)
    (same : u =
      { s with
        stopnLow := u.stopnLow, cursor := u.cursor, flags := u.flags, enables := u.enables, attn := u.attn,
        pending := u.pending })
    (attention : k.attention ∨ u.AttentionFollows) : u.SafeIn k := by
  refine h.of_core ?_ (fun _ => id) (fun _ => id) ?_ ?_ ?_ ?_ ?_ attention
  · rw [same]
  · rw [same]; exact h.high
  · rw [same]; exact h.links
  · rw [same]; exact h.capture
  · rw [same]; exact ⟨h.marks.idle, h.marks.marks⟩
  · rw [same]; exact h.members

/-! ### Fault reports, flags, links -/

theorem State.raise_captureConsistent (h : s.CaptureConsistent) (f : FaultKind) (t : Option TierNo) (slot : Option SlotNo)
    (p : Option Pose) : (s.raise f t slot p).CaptureConsistent := by
  rw [State.raise_eq]
  intro second
  dsimp only at second ⊢
  cases held : s.capture with
  | none =>
    rw [held] at second
    obtain ⟨r, hr, -⟩ := h second
    cases held.symm.trans hr
  | some q =>
    cases hard : q.kind.isHard with
    | true => exact ⟨q, by simp [latched, hard], hard⟩
    | false =>
      simp only [held, latchedSecond, hard, Bool.false_and, Bool.or_false] at second
      obtain ⟨r, hr, hard'⟩ := h second
      cases held.symm.trans hr
      cases hard.symm.trans hard'

/-- A fault report (R135). -/
theorem State.SafeIn.raise (h : s.SafeIn k) (f : FaultKind) (t : Option TierNo) (slot : Option SlotNo) (p : Option Pose)
    (hk : k.attention) : (s.raise f t slot p).SafeIn k := by
  have capture := State.raise_captureConsistent h.capture f t slot p
  rw [State.raise_eq] at capture ⊢
  exact h.of_core rfl (fun _ => id) (fun _ => id) h.high h.links capture ⟨h.marks.idle, h.marks.marks⟩ h.members (.inl hk)

/-- The flags follow (R173, R174). -/
theorem State.SafeIn.settle (h : s.SafeIn k) : s.settle.SafeIn { k with attention := False } :=
  h.of_core rfl (fun _ => id) (fun _ => id) h.high h.links h.capture ⟨h.marks.idle, h.marks.marks⟩ h.members
    (.inr ⟨rfl, fun _ => rfl, fun low => absurd (h.high.symm.trans low) nofun⟩)

theorem State.SafeIn.withLinks (h : s.SafeIn k) (l : Links) : (s.withLinks l).SafeIn { k with links := l } :=
  h.of_core rfl (fun _ => id) (fun _ => id) h.high rfl h.capture ⟨h.marks.idle, h.marks.marks⟩ h.members
    (h.attention.imp_right fun a => ⟨a.flags, a.attn, a.held⟩)

/-- A mailbox is stored whole, with what its claim shows, or FREE where it has none (R54). -/
theorem State.SafeIn.setMailbox (h : s.SafeIn k) {b : Handle} {m : Mailbox}
    (bound : ∀ i c, s.Holds i c → c.handle = b → m.state = c.state ∧ m.result = c.result)
    (vacant : (∀ i c, s.Holds i c → c.handle ≠ b) → m.state = .free) : (s.setMailbox b m).SafeIn k := by
  refine h.of_claims rfl (fun _ => id) (fun _ => id) h.high h.links ⟨fun i c hc => ?_, fun a none => ?_⟩
    h.active.grantedOnlyInRun h.configEmpty h.placed.tiers h.active.holds h.active.ceilings h.active.space
    ⟨h.settings.configs, h.settings.globals, h.settings.ceilings, h.settings.capacities, h.settings.holds⟩ h.capture
    ⟨h.marks.idle, h.marks.marks⟩ h.members (h.attention.imp_right fun a => ⟨a.flags, a.attn, a.held⟩)
  · rw [State.setMailbox_mailbox]
    split_ifs with here
    · exact bound i c hc here.symm
    · exact h.mailboxes.bound i c hc
  · rw [State.setMailbox_mailbox]
    split_ifs with here
    · exact vacant (here ▸ none)
    · exact h.mailboxes.vacant a none

/-- The pending flag of a mailbox is no part of what it shows (R55). -/
theorem State.SafeIn.setMailbox_pending (h : s.SafeIn k) (b : Handle) (pending : Bool) :
    (s.setMailbox b { s.mailbox b with pending := pending }).SafeIn k :=
  h.setMailbox (fun i c hc here => here ▸ h.mailboxes.bound i c hc) (h.mailboxes.vacant b)

/-! ### Scans (R64 to R66) -/

/-- Another scan state, idle while no scan runs and with marks in the wait list alone. -/
theorem State.SafeIn.withScan (h : s.SafeIn k) {c : Scan} (idle : c.running = false → c = Scan.idle)
    (marks : ∀ i : RecNo, c.marks[i] = true → i ∈ s.waitList)
    (members : k.scan ∨ (c.running = true → someMarked s.waitList c = true)) : { s with scan := c }.SafeIn k :=
  h.of_core rfl (fun _ => id) (fun _ => id) h.high h.links h.capture ⟨idle, marks⟩ members
    (h.attention.imp_right fun a => ⟨a.flags, a.attn, a.held⟩)

theorem startedScan_idle (l : List RecNo) (h : (startedScan l).running = false) : startedScan l = Scan.idle := by
  unfold startedScan at h ⊢
  split_ifs at h ⊢
  rfl

theorem idle_marks (i : RecNo) : ¬Scan.idle.marks[i] = true := by
  simp [Scan.idle]

theorem startedScan_marks (l : List RecNo) (i : RecNo) (h : (startedScan l).marks[i] = true) : i ∈ l := by
  unfold startedScan at h
  split_ifs at h
  · exact absurd h (idle_marks i)
  · simpa using h

theorem startedScan_members (l : List RecNo) (h : (startedScan l).running = true) :
    someMarked l (startedScan l) = true := by
  unfold startedScan someMarked at *
  split_ifs at h ⊢ with empty
  · simp [Scan.idle] at h
  · cases l with
    | nil => simp at empty
    | cons i l => simp

theorem State.SafeIn.requestScan (h : s.SafeIn k) : s.requestScan.SafeIn k := by
  rw [State.requestScan_eq]
  unfold requestedScan
  have kept : { s with scan := s.scan }.SafeIn k := h.withScan h.marks.idle h.marks.marks h.members
  split
  · split_ifs with running
    · exact h.withScan (fun stopped => absurd (running.symm.trans stopped) nofun) h.marks.marks h.members
    · exact h.withScan (startedScan_idle _) (startedScan_marks _) (.inr (startedScan_members _))
  · exact kept
  · exact kept

theorem State.SafeIn.closeScan (h : s.SafeIn k) : s.closeScan.SafeIn { k with scan := False } := by
  have h' : s.SafeIn { k with scan := True } := h.mono rfl (fun _ => id) (fun _ => id) (fun _ => trivial) id
  have closed : s.closeScan.SafeIn { k with scan := True } ∧
      (s.closeScan.scan.running = true → s.closeScan.membersLeft = true) := by
    rw [State.closeScan_eq]
    unfold closedScan
    split_ifs with ended again
    · exact ⟨h'.withScan (startedScan_idle _) (startedScan_marks _) (.inl trivial), startedScan_members _⟩
    · exact ⟨h'.withScan (fun _ => rfl) (fun i marked => absurd marked (idle_marks i)) (.inl trivial), nofun⟩
    · refine ⟨h'.withScan h.marks.idle h.marks.marks (.inl trivial), fun running => ?_⟩
      change s.scan.running = true at running
      have marked : someMarked s.waitList s.scan = true := by simpa [running] using ended
      exact marked
  exact { closed.1 with members := .inr closed.2 }

/-- A scan request with the test for the scan's end closes the scan (R64, R66). -/
theorem State.SafeIn.rescan (h : s.SafeIn k) : s.rescan.SafeIn { k with scan := False } :=
  h.requestScan.closeScan

end Around

end Sys2Proof.Machine
end

section
/-! SUPPORT. Tier records written anew keep what holds during an event. -/

namespace Sys2Proof.Machine

section Writes
variable {s : State} {k : Underway} (h : s.SafeIn k)
include h

/-! ### Tier records -/

/-- Other tier records with the same leg queues tell the same story of the claims. -/
theorem State.SafeIn.table_withTiers {v : Vector Tier 24} (legs : ∀ t : TierNo, v[t].legs = (s.tier t).legs) :
    { s with tiers := v }.TableExact where
  handles := h.table.handles
  waitList := ⟨h.table.waitList.nodup, h.table.waitList.exact, h.table.waitList.ordered⟩
  legQueues :=
    { nodup := fun t => (legs t ▸ h.table.legQueues.nodup t :)
      exact := fun t j => (legs t ▸ h.table.legQueues.exact t j :)
      behindHead := fun t j hj => h.table.legQueues.behindHead t j (legs t ▸ hj) }

theorem State.SafeIn.spaceRecord_withTiers {v : Vector Tier 24} (legs : ∀ t : TierNo, v[t].legs = (s.tier t).legs)
    {t : TierNo} (cfg : v[t].cfg = (s.tier t).cfg) (standing : v[t].standing = (s.tier t).standing) :
    { s with tiers := v }.spaceRecord t = s.spaceRecord t := by
  refine State.spaceRecord_congr cfg standing (Option.ext fun a => ?_)
  rw [(h.table_withTiers legs).activeArc_iff, h.table.activeArc_iff]
  rfl

/-- The tier records are written anew but for configurations and leg queues. -/
theorem State.SafeIn.withTiers {v : Vector Tier 24} (cfg : ∀ t : TierNo, v[t].cfg = (s.tier t).cfg)
    (legs : ∀ t : TierNo, v[t].legs = (s.tier t).legs) (range : ∀ t : TierNo, v[t].InRange)
    (placed : ∀ t : TierNo, (s.tier t).placed = true → v[t].placed = true) (space : { s with tiers := v }.SpaceSeparate)
    (runs : ∀ t : TierNo, v[t].leaseRunning = (s.tier t).leaseRunning)
    (stopped : ∀ t : TierNo, 1 ≤ v[t].lease → v[t].leaseRunning = true) {late : TierNo → Prop}
    (running : ∀ t : TierNo, v[t].leaseRunning = true → 1 ≤ v[t].lease ∨ late t)
    (faults : { s with tiers := v }.FaultsBut k.failing)
    (attention : k.attention ∨ ∀ t : TierNo, v[t].shows = (s.tier t).shows) :
    { s with tiers := v }.SafeIn { k with late := late } where
  high := h.high
  links := h.links
  table := h.table_withTiers legs
  mailboxes := ⟨h.mailboxes.bound, h.mailboxes.vacant⟩
  active :=
    { permit := h.active.permit
      runs := fun t => (runs t ▸ h.active.runs t :)
      grantedOnlyInRun := h.active.grantedOnlyInRun
      pools := ⟨h.active.pools.hyd, h.active.pools.slew, h.active.pools.bounded⟩
      holds := h.active.holds
      ceilings := h.active.ceilings
      space := space }
  countdowns := ⟨stopped, running⟩
  faults := faults
  configEmpty := h.configEmpty
  placed :=
    { tiers := fun config t enabled => placed t (h.placed.tiers config t (cfg t ▸ enabled))
      claims := fun i c hc => (cfg c.handle.tier ▸ h.placed.claims i c hc :) }
  settings :=
    ⟨fun t => (cfg t ▸ h.settings.configs t :), h.settings.globals, h.settings.ceilings, h.settings.capacities,
      h.settings.holds⟩
  records := ⟨range, h.records.claims⟩
  capture := h.capture
  marks := ⟨h.marks.idle, h.marks.marks⟩
  members := h.members
  attention := attention.elim .inl fun same => h.attention.imp_right fun follows =>
    follows.congr (State.conditions_congr rfl rfl rfl rfl rfl same) rfl rfl rfl rfl

/-- A tier's record is written anew but for its configuration and leg queue. Where its standing arc changes the tier has no
claim, and the new arc is clear of the other tiers. -/
theorem State.SafeIn.setTier {t : TierNo} {r : Tier} (cfg : r.cfg = (s.tier t).cfg) (legs : r.legs = (s.tier t).legs)
    (range : r.InRange) (placed : (s.tier t).placed = true → r.placed = true)
    (standing : r.standing = (s.tier t).standing ∨ (∀ i c, s.Holds i c → c.handle.tier ≠ t) ∧
      (s.mode ≠ .config → ∀ a, r.standing = some a → s.clearOfOthers t a = true))
    (runs : r.leaseRunning = (s.tier t).leaseRunning) (stopped : 1 ≤ r.lease → r.leaseRunning = true)
    (running : r.leaseRunning = true → 1 ≤ r.lease ∨ k.late t)
    (frozen : ∀ i c, s.Holds i c → c.handle.tier = t → r.fault.isSome → (∃ g, c.phase = .frozen g) ∨ k.failing t)
    (faulted : ∀ i c g, s.Holds i c → c.handle.tier = t → c.phase = .frozen g → r.fault.isSome)
    (attention : k.attention ∨ r.shows = (s.tier t).shows) : (s.setTier t r).SafeIn k := by
  have each {P : TierNo → Tier → Prop} (self : P t r) (others : ∀ v, P v (s.tier v)) (v : TierNo) :
      P v ((s.setTier t r).tier v) := by
    rw [State.setTier_tier]
    split_ifs with here
    · exact here ▸ self
    · exact others v
  have cfgs := each (P := fun v x => x.cfg = (s.tier v).cfg) cfg fun _ => rfl
  have queues := each (P := fun v x => x.legs = (s.tier v).legs) legs fun _ => rfl
  have space_of {v : TierNo} (same : ((s.setTier t r).tier v).standing = (s.tier v).standing) :
      (s.setTier t r).spaceRecord v = s.spaceRecord v := h.spaceRecord_withTiers queues (cfgs v) same
  refine h.withTiers cfgs queues (each (P := fun _ x => x.InRange) range h.records.tiers)
    (each (P := fun v x => (s.tier v).placed = true → x.placed = true) placed fun _ => id) ?_
    (each (P := fun v x => x.leaseRunning = (s.tier v).leaseRunning) runs fun _ => rfl)
    (each (P := fun _ x => 1 ≤ x.lease → x.leaseRunning = true) stopped h.countdowns.stopped)
    (each (P := fun v x => x.leaseRunning = true → 1 ≤ x.lease ∨ k.late v) running h.countdowns.running)
    ⟨fun i c hc => ?_, fun i c g hc hg => ?_⟩
    (attention.imp_right fun same => each (P := fun v x => x.shows = (s.tier v).shows) same fun _ => rfl)
  · intro config v w a b ne ha hb
    rcases standing with same | ⟨alone, clear⟩
    · have all := each (P := fun v x => x.standing = (s.tier v).standing) same fun _ => rfl
      exact h.active.space config v w a b ne (space_of (all v) ▸ ha) (space_of (all w) ▸ hb)
    · have other {x : TierNo} (hx : t ≠ x) : (s.setTier t r).spaceRecord x = s.spaceRecord x :=
        space_of (by rw [State.setTier_tier, if_neg hx])
      have self {x : Arc} (hx : (s.setTier t r).spaceRecord t = some x) : s.clearOfOthers t x = true := by
        have none : (s.setTier t r).activeArc t = none := by
          refine Option.eq_none_iff_forall_ne_some.mpr fun y hy => ?_
          obtain ⟨i, c, -, hc, here, -⟩ := (h.table_withTiers queues).activeArc_iff.mp hy
          exact alone i c hc here
        rw [State.spaceRecord_eq, none, Option.none_or, State.setTier_tier_self] at hx
        split_ifs at hx
        exact clear config x hx
      by_cases hv : t = v
      · subst hv
        exact State.clearOfOthers_iff.mp (self ha) w b ne.symm (other ne ▸ hb)
      · by_cases hw : t = w
        · subst hw
          rw [Arc.overlaps_comm]
          exact State.clearOfOthers_iff.mp (self hb) v a ne (other hv ▸ ha)
        · exact h.active.space config v w a b ne (other hv ▸ ha) (other hw ▸ hb)
  · exact each (P := fun v x => c.handle.tier = v → x.fault.isSome → (∃ g, c.phase = .frozen g) ∨ k.failing v)
      (frozen i c hc) (fun v here => here ▸ h.faults.frozen i c hc) _ rfl
  · exact each (P := fun v x => c.handle.tier = v → x.fault.isSome) (fun here => faulted i c g hc here hg)
      (fun v here => here ▸ h.faults.faulted i c g hc hg) _ rfl

/-- What a REPORT or RELEASE writes of its tier beside fault kind, standing arc and leg queue. -/
theorem State.SafeIn.setTier_motion {t : TierNo} {r : Tier}
    (same : r =
      { s.tier t with
        tracked := r.tracked, havePose := r.havePose, lastSeq := r.lastSeq, haveSeq := r.haveSeq, lease := r.lease })
    (tracked : r.tracked.InRange) (seq : r.lastSeq ≤ 15) (lease : r.lease ≤ 255)
    (stopped : 1 ≤ r.lease → (s.tier t).leaseRunning = true)
    (running : (s.tier t).leaseRunning = true → 1 ≤ r.lease ∨ k.late t) : (s.setTier t r).SafeIn k := by
  have old := h.records.tiers t
  have runs : r.leaseRunning = (s.tier t).leaseRunning := (congrArg Tier.leaseRunning same :)
  have fault : r.fault = (s.tier t).fault := (congrArg Tier.fault same :)
  have standing : r.standing = (s.tier t).standing := (congrArg Tier.standing same :)
  refine h.setTier (congrArg Tier.cfg same :) (congrArg Tier.legs same :) ?_
    (by rw [Tier.placed, Tier.placed, standing]; exact id) (.inl standing) runs (runs ▸ stopped) (runs ▸ running) ?_ ?_ (.inr ?_)
  · rw [same]
    exact { old with tracked := tracked, lastSeq := seq, lease := lease }
  · rintro i c hc rfl
    exact fault ▸ h.faults.frozen i c hc
  · rintro i c g hc rfl
    exact fault ▸ h.faults.faulted i c g hc
  · rw [same]; rfl

end Writes

end Sys2Proof.Machine
end

section
/-! SUPPORT. The mode, a hold, a capacity are written; many claims stop or retire at one event; a tier fails. -/

namespace Sys2Proof.Machine

section Many
variable {s : State} {k : Underway} (h : s.SafeIn k)
include h

/-! ### Many claims at one event -/

omit h in
theorem foldl_keeps {α : Type} {P : State → Prop} {f : State → α → State} (keeps : ∀ s a, P s → P (f s a)) (l : List α)
    {s : State} (hs : P s) : P (l.foldl f s) := by
  induction l generalizing s with
  | nil => exact hs
  | cons a l ih => exact ih (keeps s a hs)

theorem State.SafeIn.stopWhere (p : Handle → Arc → Bool) : (s.stopWhere p).SafeIn k := by
  refine foldl_keeps (fun s i hs => ?_) _ h
  split_ifs
  · exact hs.stopRecord i
  · exact hs

theorem State.SafeIn.retireWaitingWhere (p : Claim → Bool) (r : Result) (hk : k.scan) :
    (s.retireWaitingWhere p r).SafeIn k := by
  refine foldl_keeps (fun s i hs => ?_) _ h
  split_ifs
  · exact hs.retireWaiting i r hk
  · exact hs

omit h in
/-- After a stop of all claims that `p` picks none of these is GRANTED. -/
theorem State.withStopped_granted {p : Handle → Arc → Bool} {i : RecNo} {c : Claim} {g : Grant}
    (hc : (s.withStopped p).Holds i c) (hg : c.phase = .granted g) :
    s.Holds i c ∧ p c.handle g.arc = false := by
  rw [State.Holds, State.withStopped_record, Option.map_eq_some_iff] at hc
  obtain ⟨d, hd, same⟩ := hc
  by_cases picked : d.grantedAnd p = true
  · obtain ⟨g', granted, -⟩ := (Claim.grantedAnd_iff p d).mp picked
    rw [if_pos picked] at same
    subst same
    simp [Claim.stopped, granted] at hg
  · rw [if_neg picked] at same
    subst same
    refine ⟨hd, ?_⟩
    rw [Claim.grantedAnd_iff] at picked
    simpa using fun hp => picked ⟨g, hg, hp⟩

omit h in
/-- After a retirement of all WAITING claims that `p` picks none of these is left. -/
theorem State.withRetired_waiting {p : Claim → Bool} {r : Result} {i : RecNo} {c : Claim}
    (hc : (s.withRetired p r).Holds i c) : s.Holds i c ∧ (p c = true → c.phase ≠ .waiting) := by
  rw [State.Holds, State.withRetired_record] at hc
  split_ifs at hc with gone
  refine ⟨hc, fun hp waiting => gone ?_⟩
  rw [hc, Option.any_some, hp, (Claim.isWaiting_iff c).mpr waiting]
  rfl

/-! ### The mode (R145 to R149) -/

/-- The mode is written: no claim is GRANTED outside RUN, none stands in CONFIG, and on leaving CONFIG the tiers are placed
apart. -/
theorem State.SafeIn.withMode {m : Mode} (hk : k.attention)
    (granted : m = .run ∨ ∀ i c g, s.Holds i c → c.phase ≠ .granted g)
    (empty : m = .config → ∀ i, s.record i = none)
    (leaves : s.mode = .config → m ≠ .config →
      (∀ t, (s.tier t).cfg.enabled = true → (s.tier t).placed = true) ∧
        ∀ t u a b, t ≠ u → s.spaceRecord t = some a → s.spaceRecord u = some b → a.overlaps b = false) :
    { s with mode := m }.SafeIn k := by
  refine h.of_claims rfl (fun _ => id) (fun _ => id) h.high h.links ⟨h.mailboxes.bound, h.mailboxes.vacant⟩ ?_
    (fun config => empty config) ?_ h.active.holds
    h.active.ceilings ?_
    ⟨h.settings.configs, h.settings.globals, h.settings.ceilings, h.settings.capacities, h.settings.holds⟩ h.capture
    ⟨h.marks.idle, h.marks.marks⟩ h.members (.inl hk)
  · intro i c g hc hg
    exact granted.resolve_right fun no => no i c g hc hg
  · intro config
    by_cases was : s.mode = .config
    · exact (leaves was config).1
    · exact h.placed.tiers was
  · intro config
    by_cases was : s.mode = .config
    · exact (leaves was config).2
    · exact h.active.space was

/-! ### Holds and capacities (R87, R90, R95) -/

theorem State.SafeIn.setHold {j : HoldNo} {o : Option Arc}
    (range : ∀ a, o = some a → a.start ≤ 65535 ∧ 1 ≤ a.length ∧ a.length ≤ 65535)
    (clear : ∀ i c g a, s.Holds i c → c.phase = .granted g → o = some a → g.arc.overlaps a = false) :
    (s.setHold j o).SafeIn k := by
  refine h.of_claims rfl (fun _ => id) (fun _ => id) h.high h.links ⟨h.mailboxes.bound, h.mailboxes.vacant⟩
    h.active.grantedOnlyInRun h.configEmpty h.placed.tiers ?_ h.active.ceilings h.active.space (h.settings.setHold j range) h.capture ⟨h.marks.idle, h.marks.marks⟩ h.members
    (h.attention.imp_right fun a => ⟨a.flags, a.attn, a.held⟩)
  intro i c g l a hc hg hl
  rw [State.setHold_hold] at hl
  split_ifs at hl
  · exact clear i c g a hc hg hl
  · exact h.active.holds i c g l a hc hg hl

theorem State.SafeIn.setPool_capacity (p : PoolId) {v : Nat} (hv : v ≤ 4095) (hk : k.attention) :
    (s.setPool p { s.pool p with capacity := v }).SafeIn k := by
  cases p with
  | hyd =>
    exact h.of_claims rfl (fun _ => id) (fun _ => id) h.high h.links ⟨h.mailboxes.bound, h.mailboxes.vacant⟩
      h.active.grantedOnlyInRun h.configEmpty h.placed.tiers h.active.holds h.active.ceilings h.active.space
      ⟨h.settings.configs, h.settings.globals, h.settings.ceilings, ⟨hv, h.settings.capacities.2⟩, h.settings.holds⟩
      h.capture ⟨h.marks.idle, h.marks.marks⟩ h.members (.inl hk)
  | slew =>
    exact h.of_claims rfl (fun _ => id) (fun _ => id) h.high h.links ⟨h.mailboxes.bound, h.mailboxes.vacant⟩
      h.active.grantedOnlyInRun h.configEmpty h.placed.tiers h.active.holds h.active.ceilings h.active.space
      ⟨h.settings.configs, h.settings.globals, h.settings.ceilings, ⟨h.settings.capacities.1, hv⟩, h.settings.holds⟩
      h.capture ⟨h.marks.idle, h.marks.marks⟩ h.members (.inl hk)

/-! ### The tier hard-fault event (R127 to R129) -/

omit h in
theorem State.anyWaiting_iff {p : Claim → Bool} :
    s.anyWaiting p = true ↔ ∃ i c, s.Holds i c ∧ c.phase = .waiting ∧ p c = true := by
  simp [State.anyWaiting, State.Holds, Option.any_eq_true, Claim.isWaiting_iff]

omit h in
/-- Where no WAITING claim is picked none retires. -/
theorem State.retireWaitingWhere_none {p : Claim → Bool} {r : Result} (none : s.anyWaiting p = false) :
    s.retireWaitingWhere p r = s := by
  have idle (i : RecNo) : s.retireTurn p r i = s := by
    rcases s.retireTurn_eq p r i with ⟨same, -⟩ | ⟨c, hc, waiting, picked, -⟩
    · exact same
    · rw [← Bool.not_eq_true, State.anyWaiting_iff] at none
      exact absurd ⟨i, c, hc, (Claim.isWaiting_iff c).mp waiting, picked⟩ none
  exact foldl_keeps (P := fun u => u = s) (fun u i hu => by rw [hu]; exact idle i) _ rfl

omit h in
/-- After the freeze of its head claim a tier's claims are WAITING or FROZEN, and the WAITING ones are as before. -/
theorem State.SafeIn.freezeHead_phase (h : s.SafeIn k) {t : TierNo} {i : RecNo} {c : Claim}
    (hc : (s.freezeHead t).Holds i c) :
    (c.phase = .waiting → s.Holds i c) ∧ (c.handle.tier = t → c.phase ≠ .waiting → ∃ g, c.phase = .frozen g) := by
  cases found : s.headClaim t with
  | none =>
    rw [State.freezeHead_idle (by simp [found])] at hc
    exact ⟨fun _ => hc, fun here => absurd here (h.table.no_claim_of_headClaim found i c hc)⟩
  | some x =>
    obtain ⟨j, d⟩ := x
    obtain ⟨hd, rfl, head⟩ := h.table.headClaim_iff.mp found
    by_cases moves : ∃ g, d.phase = .granted g ∨ d.phase = .stopping g
    · obtain ⟨g, phase⟩ := moves
      rw [State.freezeHead_active found phase, State.Holds, State.freezeWith_record] at hc
      split_ifs at hc with same
      · cases hc
        exact ⟨nofun, fun _ _ => ⟨g, rfl⟩⟩
      · exact ⟨fun _ => hc, fun here active =>
          absurd (h.table.waiting_of_head hd head hc here (Ne.symm same)) active⟩
    · rw [State.freezeHead_idle fun j' d' g e => by
        cases found.symm.trans e
        exact ⟨fun granted => moves ⟨g, .inl granted⟩, fun stopping => moves ⟨g, .inr stopping⟩⟩] at hc
      refine ⟨fun _ => hc, fun here active => ?_⟩
      by_cases same : i = j
      · subst same
        obtain rfl : d = c := Option.some.inj (hd.symm.trans hc)
        obtain ⟨g, grant⟩ := Claim.grant?_isSome active
        rcases Claim.phase_of_grant? grant with phase | phase | phase
        · exact absurd ⟨g, .inl phase⟩ moves
        · exact absurd ⟨g, .inr phase⟩ moves
        · exact ⟨g, phase⟩
      · exact absurd (h.table.waiting_of_head hd head hc here same) active

/-- The tier `t` is in its hard-fault event. -/
def Underway.faulting (k : Underway) (t : TierNo) : Underway :=
  { k with failing := fun u => k.failing u ∨ u = t }

omit h in
/-- Once the tier's claims are FROZEN its fault is closed (R127). -/
theorem State.SafeIn.faulted {t : TierNo} (h : s.SafeIn (k.faulting t))
    (frozen : ∀ i c, s.Holds i c → c.handle.tier = t → ∃ g, c.phase = .frozen g) : s.SafeIn k :=
  { h with
    faults := ⟨fun i c hc fault => (h.faults.frozen i c hc fault).elim .inl fun failing =>
      failing.elim .inr fun here => .inl (frozen i c hc here), h.faults.faulted⟩ }

/-- The fault kind is set: the tier's claims are not all FROZEN yet (R127). -/
theorem State.SafeIn.setFault (t : TierNo) (f : HardKind) (hk : k.attention) :
    (s.setTier t { s.tier t with fault := some f }).SafeIn (k.faulting t) := by
  have old := h.records.tiers t
  have opened : s.SafeIn (k.faulting t) := h.mono rfl (fun _ => id) (fun _ => .inl) id id
  exact opened.setTier rfl rfl { old with } id (.inl rfl) rfl (h.countdowns.stopped t) (h.countdowns.running t)
    (fun _ _ _ _ _ => .inr (.inr rfl)) (fun _ _ _ _ _ _ => rfl) (.inl hk)

/-- The head claim freezes and the WAITING claims retire; where there are some the scan's end is open (R48, R128). -/
theorem State.SafeIn.failTier (t : TierNo) (f : HardKind) (hk : k.attention) :
    (((s.setTier t { s.tier t with fault := some f }).freezeHead t).retireWaitingWhere (fun c => c.handle.tier == t)
      .tierFault).SafeIn { k with scan := k.scan ∨ s.anyWaiting (fun c => c.handle.tier == t) = true } := by
  have fault := h.setFault t f hk
  have frozen := fault.freezeHead (t := t) (by rw [State.setTier_tier_self]; rfl)
  have phases {i : RecNo} {c : Claim} (hc : ((s.setTier t { s.tier t with fault := some f }).freezeHead t).Holds i c) :=
    fault.freezeHead_phase hc
  have opened : ((s.setTier t { s.tier t with fault := some f }).freezeHead t).SafeIn
      (Underway.faulting { k with scan := k.scan ∨ s.anyWaiting (fun c => c.handle.tier == t) = true } t) :=
    frozen.mono rfl (fun _ => id) (fun _ => id) .inl id
  refine State.SafeIn.faulted (t := t) ?_ fun i c hc here => ?_
  · by_cases retires : s.anyWaiting (fun c => c.handle.tier == t) = true
    · exact opened.retireWaitingWhere _ _ (.inr retires)
    · rw [State.retireWaitingWhere_none]
      · exact opened
      · rw [← Bool.not_eq_true, State.anyWaiting_iff]
        rintro ⟨i, c, hc, waiting, here⟩
        exact retires (State.anyWaiting_iff.mpr ⟨i, c, (phases hc).1 waiting, waiting, here⟩)
  · rw [State.retireWaitingWhere_eq] at hc
    obtain ⟨hc, alive⟩ := State.withRetired_waiting hc
    exact (phases hc).2 here (alive (beq_iff_eq.mpr here))

theorem State.SafeIn.hazardStopAround (t : TierNo) (a : Option Arc) : (s.hazardStopAround t a).SafeIn k := by
  unfold State.hazardStopAround
  split
  · exact h
  · exact h.stopWhere _

/-- The tier hard-fault event; where WAITING claims retire its own scan request closes the scan (R127 to R129). -/
theorem State.SafeIn.hardFaultEvent (t : TierNo) (f : HardKind) (hk : k.attention) : (s.hardFaultEvent t f).SafeIn k := by
  have stopped := (h.failTier t f hk).hazardStopAround t (s.spaceRecord t)
  unfold State.hardFaultEvent
  dsimp only
  split_ifs with retires
  · exact stopped.rescan.mono rfl (fun _ => id) (fun _ => id) False.elim id
  · exact stopped.mono rfl (fun _ => id) (fun _ => id) (fun opened => opened.resolve_right retires) id

/-- A per-tier hard fault (R127, R130). -/
theorem State.SafeIn.hardFault (t : TierNo) (f : HardKind) (slot : Option SlotNo) (p : Pose) (hk : k.attention) :
    (s.hardFault t f slot p).SafeIn k := by
  have raised := h.raise (.tier f) (some t) slot (some p) hk
  unfold State.hardFault
  dsimp only
  split_ifs
  · exact raised.hardFaultEvent t f hk
  · exact raised

end Many

end Sys2Proof.Machine
end

section
/-! SUPPORT. A CLAIM that is accepted keeps what holds during an event (R45, R60). -/

namespace Sys2Proof.Machine

/-! ### The wait list with a new record (R60) -/

/-- A record's claim stands ahead of a new one with priority `p` (R60). -/
def State.ahead (s : State) (p : Nat) (j : RecNo) : Bool :=
  (s.record j).any fun c => decide (c.priority ≤ p)

section Insert
variable {s : State} {i : RecNo} {p : Nat}

theorem State.waitInsert_eq (s : State) (i : RecNo) (p : Nat) :
    s.waitInsert i p = s.waitList.takeWhile (s.ahead p) ++ i :: s.waitList.dropWhile (s.ahead p) := rfl

theorem State.ahead_iff {j : RecNo} {d : Claim} (hd : s.Holds j d) : s.ahead p j = true ↔ d.priority ≤ p := by
  rw [State.ahead, show s.record j = some d from hd, Option.any_some, decide_eq_true_iff]

theorem State.mem_waitInsert {j : RecNo} : j ∈ s.waitInsert i p ↔ j = i ∨ j ∈ s.waitList := by
  rw [State.waitInsert_eq]
  conv_rhs => rw [← List.takeWhile_append_dropWhile (p := s.ahead p) (l := s.waitList)]
  simp only [List.mem_append, List.mem_cons]
  tauto

theorem State.nodup_waitInsert (h : s.waitList.Nodup) (new : i ∉ s.waitList) : (s.waitInsert i p).Nodup := by
  rw [State.waitInsert_eq, List.nodup_middle, List.takeWhile_append_dropWhile, List.nodup_cons]
  exact ⟨new, h⟩

/-- Behind the place of insertion every claim is less urgent. -/
theorem State.lt_of_mem_dropWhile {l : List RecNo} (known : ∀ j ∈ l, ∃ d, s.Holds j d)
    (ordered : l.Pairwise fun j j' => ∀ c d, s.Holds j c → s.Holds j' d → c.priority ≤ d.priority) {j : RecNo}
    (hj : j ∈ l.dropWhile (s.ahead p)) {d : Claim} (hd : s.Holds j d) : p < d.priority := by
  induction l with
  | nil => cases hj
  | cons a l ih =>
    rw [List.pairwise_cons] at ordered
    rw [List.dropWhile_cons] at hj
    split_ifs at hj with urgent
    · exact ih (fun j hj => known j (List.mem_cons_of_mem a hj)) ordered.2 hj
    · obtain ⟨e, he⟩ := known a List.mem_cons_self
      have less : p < e.priority := Nat.lt_of_not_le fun le => urgent ((State.ahead_iff he).mpr le)
      rcases List.mem_cons.mp hj with rfl | behind
      · rwa [Option.some.inj (hd.symm.trans he)]
      · exact less.trans_le (ordered.1 j behind e d he hd)

/-- A list in order stays so when a new claim is put behind those that stand ahead of it (R60). -/
theorem State.waitInsert_ordered {R : RecNo → RecNo → Prop} (old : s.waitList.Pairwise R)
    (ahead : ∀ j ∈ s.waitList, s.ahead p j = true → R j i) (behind : ∀ j ∈ s.waitList.dropWhile (s.ahead p), R i j) :
    (s.waitInsert i p).Pairwise R := by
  rw [← List.takeWhile_append_dropWhile (p := s.ahead p) (l := s.waitList), List.pairwise_append] at old
  obtain ⟨first, second, across⟩ := old
  rw [State.waitInsert_eq]
  refine List.pairwise_append.mpr ⟨first, List.pairwise_cons.mpr ⟨behind, second⟩, fun a ha b hb => ?_⟩
  rcases List.mem_cons.mp hb with rfl | hb
  · exact ahead a (List.takeWhile_subset _ ha) (List.mem_takeWhile_imp ha)
  · exact across a ha b hb

end Insert

/-! ### A new WAITING claim -/

/-- `u` is `s` with a new WAITING claim in a FREE record, of a handle that was vacant: at the end of its leg queue, in the
wait list, and in its mailbox (R45). -/
def State.entered (s : State) (i : RecNo) (c : Claim) : State :=
  (({ s.setRecord i (some c) with waitList := s.waitInsert i c.priority }.setTier c.handle.tier
    { s.tier c.handle.tier with legs := (s.tier c.handle.tier).legs ++ [c.handle.slot] }).post c.handle .waiting .queued)

theorem State.acceptClaim_eq (s : State) (h : Handle) (m : Motion) (declared : Nat) (i : RecNo) :
    s.acceptClaim h m declared i = (s.entered i
      { handle := h, motion := m, priority := max declared (s.tier h.tier).cfg.bestPriority
        origin := s.projectedPose h.tier, phase := .waiting }).rescan := rfl

section Enter
variable {s : State} {i : RecNo} {c : Claim}

theorem State.entered_record (j : RecNo) : (s.entered i c).record j = if i = j then some c else s.record j :=
  s.setRecord_record i j _

theorem State.entered_tier (t : TierNo) : (s.entered i c).tier t =
    if c.handle.tier = t then { s.tier t with legs := (s.tier t).legs ++ [c.handle.slot] } else s.tier t := by
  refine (State.setTier_tier _ c.handle.tier t _).trans ?_
  split_ifs with here
  · rw [here]
  · rfl

theorem State.entered_mailbox (b : Handle) : (s.entered i c).mailbox b =
    if c.handle = b then ⟨.waiting, .queued, true⟩ else s.mailbox b :=
  State.post_mailbox _ c.handle b _ _

theorem State.entered_holds {j : RecNo} {d : Claim} (free : s.record i = none) :
    (s.entered i c).Holds j d ↔ (j = i ∧ d = c) ∨ s.Holds j d := by
  rw [State.Holds, State.entered_record]
  split_ifs with same
  · subst same
    simp [State.Holds, free, eq_comm]
  · simp [State.Holds, Ne.symm same]

variable (free : s.record i = none) (vacant : ∀ j d, s.Holds j d → d.handle ≠ c.handle) (waiting : c.phase = .waiting)
include free vacant waiting

omit waiting in
theorem State.entered_handles (h : s.HandlesUnique) : (s.entered i c).HandlesUnique := by
  intro j l d e hd he same
  rcases (State.entered_holds free).mp hd with ⟨hj, hdc⟩ | old <;>
    rcases (State.entered_holds free).mp he with ⟨hl, hec⟩ | old'
  · rw [hj, hl]
  · exact absurd (hdc ▸ same.symm) (vacant l e old')
  · exact absurd (hec ▸ same) (vacant j d old)
  · exact h j l d e old old' same

omit vacant in
theorem State.entered_waitList (h : s.WaitListExact) : (s.entered i c).WaitListExact := by
  have holds {j : RecNo} {d : Claim} := State.entered_holds (s := s) (c := c) (j := j) (d := d) free
  have self (d : Claim) : ¬s.Holds i d := fun hd => by cases free.symm.trans hd
  have new : i ∉ s.waitList := fun mem => by
    obtain ⟨d, hd, -⟩ := (h.exact i).mp mem
    exact self d hd
  have own {d : Claim} (hd : (s.entered i c).Holds i d) : d = c := ((holds.mp hd).resolve_right (self d)).2
  have old {j : RecNo} (hj : j ∈ s.waitList) {d : Claim} (hd : (s.entered i c).Holds j d) : s.Holds j d :=
    (holds.mp hd).resolve_left fun same => new (same.1 ▸ hj)
  refine ⟨State.nodup_waitInsert h.nodup new, fun j => ?_, State.waitInsert_ordered ?_ (fun j hj ahead d e hd he => ?_)
    fun j hj d e hd he => ?_⟩
  · change j ∈ s.waitInsert i c.priority ↔ _
    rw [State.mem_waitInsert, h.exact]
    constructor
    · rintro (rfl | ⟨d, hd, hw⟩)
      · exact ⟨c, holds.mpr (.inl ⟨rfl, rfl⟩), waiting⟩
      · exact ⟨d, holds.mpr (.inr hd), hw⟩
    · rintro ⟨d, hd, hw⟩
      exact (holds.mp hd).imp And.left fun hd => ⟨d, hd, hw⟩
  · exact h.ordered.imp_of_mem fun ha hb le d e hd he => le d e (old ha hd) (old hb he)
  · rw [own he]
    exact (State.ahead_iff (old hj hd)).mp ahead
  · rw [own hd]
    have listed := List.dropWhile_subset _ hj
    exact (State.lt_of_mem_dropWhile (fun j hj => ((h.exact j).mp hj).imp fun _ => And.left) h.ordered hj (old listed he)).le

theorem State.entered_legQueues (h : s.LegQueuesExact) : (s.entered i c).LegQueuesExact := by
  have holds {j : RecNo} {d : Claim} := State.entered_holds (s := s) (c := c) (j := j) (d := d) free
  have legs (t : TierNo) : ((s.entered i c).tier t).legs =
      if c.handle.tier = t then (s.tier t).legs ++ [c.handle.slot] else (s.tier t).legs := by
    rw [State.entered_tier]
    split_ifs <;> rfl
  have unqueued : c.handle.slot ∉ (s.tier c.handle.tier).legs := fun mem => by
    obtain ⟨j, d, hd, handle⟩ := (h.exact _ _).mp mem
    exact vacant j d hd handle
  refine ⟨fun t => ?_, fun t b => ?_, fun t b hb j d hd handle => ?_⟩
  · rw [legs]
    split_ifs with here
    · subst here
      exact List.nodup_append.mpr ⟨h.nodup _, List.nodup_singleton _, fun a ha b hb e => unqueued (by
        rw [List.mem_singleton.mp hb] at e; exact e ▸ ha)⟩
    · exact h.nodup t
  · have mem : b ∈ ((s.entered i c).tier t).legs ↔ b ∈ (s.tier t).legs ∨ c.handle = ⟨t, b⟩ := by
      rw [legs]
      split_ifs with here
      · subst here
        rw [List.mem_append, List.mem_singleton]
        refine or_congr_right ⟨fun e => by rw [e], fun e => (congrArg Handle.slot e).symm⟩
      · exact (or_iff_left fun e => here (congrArg Handle.tier e)).symm
    rw [mem, h.exact]
    constructor
    · rintro (⟨j, d, hd, handle⟩ | handle)
      · exact ⟨j, d, holds.mpr (.inr hd), handle⟩
      · exact ⟨i, c, holds.mpr (.inl ⟨rfl, rfl⟩), handle⟩
    · rintro ⟨j, d, hd, handle⟩
      rcases holds.mp hd with ⟨rfl, rfl⟩ | hd
      · exact .inr handle
      · exact .inl ⟨j, d, hd, handle⟩
  · rcases holds.mp hd with ⟨-, hdc⟩ | old
    · exact hdc ▸ waiting
    · refine h.behindHead t b ?_ j d old handle
      rw [legs] at hb
      split_ifs at hb with here
      · cases queue : (s.tier t).legs with
        | nil => simp [queue] at hb
        | cons a l =>
          rw [queue, List.cons_append, List.tail_cons, List.mem_append, List.mem_singleton] at hb
          refine hb.resolve_right fun last => vacant j d old ?_
          rw [handle, last, ← here]
      · exact hb

theorem State.entered_table (h : s.TableExact) : (s.entered i c).TableExact :=
  ⟨State.entered_handles free vacant h.handles, State.entered_waitList free waiting h.waitList,
    State.entered_legQueues free vacant waiting h.legQueues⟩

theorem State.SafeIn.entered {k : Underway} (h : s.SafeIn k) (running : s.mode ≠ .config)
    (enabled : (s.tier c.handle.tier).cfg.enabled = true) (sound : (s.tier c.handle.tier).fault = none) (range : c.InRange)
    (scan : k.scan) : (s.entered i c).SafeIn k := by
  have holds {j : RecNo} {d : Claim} := State.entered_holds (s := s) (c := c) (j := j) (d := d) free
  have table := State.entered_table free vacant waiting h.table
  have tier (t : TierNo) := State.entered_tier (s := s) (i := i) (c := c) t
  have same (t : TierNo) : (s.entered i c).tier t = { s.tier t with legs := ((s.entered i c).tier t).legs } := by
    rw [tier]
    split_ifs <;> rfl
  have cfg (t : TierNo) : ((s.entered i c).tier t).cfg = (s.tier t).cfg := by rw [same]
  have fault (t : TierNo) : ((s.entered i c).tier t).fault = (s.tier t).fault := by rw [same]
  exact
    { high := h.high
      links := h.links
      table := table
      mailboxes :=
        { bound := fun j d hd => by
            rw [State.entered_mailbox]
            rcases holds.mp hd with ⟨-, hdc⟩ | old
            · rw [hdc, if_pos rfl, Claim.state, Claim.result, waiting]
              exact ⟨rfl, rfl⟩
            · rw [if_neg (vacant j d old).symm]
              exact h.mailboxes.bound j d old
          vacant := fun b none => by
            rw [State.entered_mailbox, if_neg (none i c (holds.mpr (.inl ⟨rfl, rfl⟩)))]
            exact h.mailboxes.vacant b fun j d hd => none j d (holds.mpr (.inr hd)) }
      active := by
        refine h.active.of_actives h.table table (fun j d active => ?_) rfl rfl rfl rfl rfl rfl fun t => ?_
        · exact holds.trans (or_iff_right fun new => active (new.2 ▸ waiting))
        · rw [same]; exact ⟨rfl, rfl, rfl⟩
      countdowns :=
        { stopped := fun t => by rw [same]; exact h.countdowns.stopped t
          running := fun t => by rw [same]; exact h.countdowns.running t }
      faults :=
        { frozen := fun j d hd hf => by
            rw [fault] at hf
            rcases holds.mp hd with ⟨-, hdc⟩ | old
            · rw [hdc, sound] at hf
              cases hf
            · exact h.faults.frozen j d old hf
          faulted := fun j d g hd hg => by
            rw [fault]
            rcases holds.mp hd with ⟨-, hdc⟩ | old
            · rw [hdc, waiting] at hg
              cases hg
            · exact h.faults.faulted j d g old hg }
      configEmpty := fun config => absurd config running
      placed :=
        { tiers := fun config t => by rw [same]; exact h.placed.tiers config t
          claims := fun j d hd => by
            rw [cfg]
            rcases holds.mp hd with ⟨-, hdc⟩ | old
            · rw [hdc]; exact enabled
            · exact h.placed.claims j d old }
      settings :=
        ⟨fun t => cfg t ▸ h.settings.configs t, h.settings.globals, h.settings.ceilings, h.settings.capacities,
          h.settings.holds⟩
      records :=
        { tiers := fun t => by
            rw [same]
            exact { h.records.tiers t with }
          claims := fun j d hd => by
            rcases holds.mp hd with ⟨-, hdc⟩ | old
            · exact hdc ▸ range
            · exact h.records.claims j d old }
      capture := h.capture
      marks := ⟨h.marks.idle, fun j marked => State.mem_waitInsert.mpr (.inr (h.marks.marks j marked))⟩
      members := .inl scan
      attention := h.attention.imp_right fun follows => follows.congr
        (State.conditions_congr rfl rfl rfl rfl rfl fun t => by rw [same]; rfl) rfl rfl rfl rfl }

end Enter

end Sys2Proof.Machine
end

section
/-! SUPPORT. From the invariant of an event under way to `State.Safe`; CLAIM and CANCEL keep it (chapter 3). -/

namespace Sys2Proof.Machine

/-! ### From event to event -/

section Ends
variable {s : State}

/-- A safe state is one in which whatever an event may leave open is still closed. -/
theorem State.Safe.opened (h : s.Safe) (high : s.resetHeld = false) {k : Underway} (links : k.links = s.links) :
    s.SafeIn k :=
  (h.inDone high).mono links.symm (fun _ => False.elim) (fun _ => False.elim) False.elim False.elim

/-- A scan request ends open scans and leaves what else is open (R64). -/
theorem State.SafeIn.rescan_within {k : Underway} (h : s.SafeIn k) : s.rescan.SafeIn k :=
  h.rescan.mono rfl (fun _ => id) (fun _ => id) False.elim id

/-- The attention flags are open. -/
def Underway.noisy (l : Links) : Underway :=
  { Underway.done l with attention := True }

/-- The scan's end is open. -/
def Underway.scanning (l : Links) : Underway :=
  { Underway.done l with scan := True }

/-- An event that ends with the flags following. -/
theorem State.SafeIn.settle_safe {l : Links} (h : s.SafeIn (.noisy l)) (hl : l.Safe) : s.settle.Safe :=
  State.SafeIn.safe (l := l) h.settle hl

/-- An event that ends with a scan request and moves no flag. -/
theorem State.SafeIn.rescan_safe {l : Links} (h : s.SafeIn (.scanning l)) (hl : l.Safe) : s.rescan.Safe :=
  State.SafeIn.safe (l := l) h.rescan hl

end Ends

section Events
variable {s : State} (h : s.Safe) (high : s.resetHeld = false)
include h high

theorem State.Safe.atDone : s.SafeIn (.done s.links) := h.inDone high

theorem State.Safe.atNoisy : s.SafeIn (.noisy s.links) := h.opened high rfl

theorem State.Safe.atScanning : s.SafeIn (.scanning s.links) := h.opened high rfl

/-- Other links, safe as well. -/
theorem State.Safe.withLinks {l : Links} (hl : l.Safe) : (s.withLinks l).Safe :=
  State.SafeIn.safe (l := l) ((h.atDone high).withLinks l) hl

theorem State.Safe.raise_settle (f : FaultKind) (t : Option TierNo) (slot : Option SlotNo) (p : Option Pose) :
    (s.raise f t slot p).settle.Safe :=
  ((h.atNoisy high).raise f t slot p trivial).settle_safe h.links

end Events

/-! ### What frames carry is in range (R176) -/

theorem claimMotion_inRange {d : List Byte} {m : Motion} (h : claimMotion d = some m) : m.InRange := by
  have position := word16At_lt d 2
  unfold claimMotion at h
  split at h
  · rw [Option.map_eq_some_iff] at h
    obtain ⟨dir, -, rfl⟩ := h
    exact ⟨Nat.le_of_lt_succ position, Nat.zero_le _⟩
  · split_ifs at h with low
    cases h
    exact ⟨Nat.zero_le _, low⟩
  · split_ifs at h with low
    rw [Option.map_eq_some_iff] at h
    obtain ⟨dir, -, rfl⟩ := h
    exact ⟨Nat.le_of_lt_succ position, low⟩
  · cases h

theorem ringPosition_lt (c : TierConfig) (e : Nat) : ringPosition c e < 65536 := by
  unfold ringPosition
  dsimp only
  split_ifs <;> omega

theorem reportedPose_inRange (c : TierConfig) (e raw : Nat) : (reportedPose c e raw).InRange :=
  ⟨Nat.le_of_lt_succ (ringPosition_lt c e), Nat.min_le_right _ _⟩

/-- The pose that a claim's completion leaves (R33). -/
theorem Claim.InRange.targetPose {c : Claim} (hc : c.InRange) : c.targetPose.InRange := by
  have origin := hc.origin
  have motion := hc.motion
  unfold Claim.targetPose
  cases m : c.motion <;> rw [m] at motion
  · exact ⟨motion.1, origin.2⟩
  · exact ⟨origin.1, motion.2⟩
  · exact motion

theorem footprint_inRange {c : TierConfig} {g : Globals} {p : Pose} (hc : c.InRange) (hg : g.InRange) (hp : p.InRange) :
    (footprint c g p).InRange := by
  have width := halfWidthAt_bounds hc hg hp.2
  refine ⟨Nat.le_of_lt_succ (ringSub_lt _ _), ?_, ?_⟩ <;> dsimp only [footprint] <;> omega

/-! ### CLAIM and CANCEL (R43 to R50) -/

theorem State.lowestFree_spec {s : State} {i : RecNo} (found : s.lowestFree = some i) : s.record i = none := by
  have free := List.find?_some found
  exact Option.isNone_iff_eq_none.mp free

/-- An enabled tier that is neither UNPLACED nor FAULTED has no fault kind (R35). -/
theorem State.fault_of_tierState {s : State} {t : TierNo} (enabled : (s.tier t).cfg.enabled = true)
    (h : ¬(s.tierState t = .unplaced ∨ s.tierState t = .faulted)) : (s.tier t).fault = none := by
  unfold State.tierState at h
  split_ifs at h <;> simp_all

section Claims
variable {s : State} (h : s.Safe) (high : s.resetHeld = false)
include h high

omit high in
theorem State.Safe.projectedPose (t : TierNo) : (s.projectedPose t).InRange := by
  have rest := (h.records.tiers t).rest
  unfold State.projectedPose
  split
  · exact rest
  · split
    · exact rest
    · next found =>
      split_ifs
      · exact rest
      · exact (h.records.claims _ _ (State.claimAt_spec found).1).targetPose

theorem State.Safe.refuseClaim {b : Handle} (vacant : s.boundTo b = none) (r : Result) : (s.refuseClaim b r).Safe :=
  State.SafeIn.safe (l := s.links) ((h.atDone high).setMailbox
    (fun i c hc here => absurd here (State.boundTo_eq_none.mp vacant i c hc)) fun _ => rfl) h.links

theorem State.Safe.acceptClaim {b : Handle} {m : Motion} {declared : Nat} {i : RecNo} (vacant : s.boundTo b = none)
    (running : s.mode ≠ .config) (enabled : (s.tier b.tier).cfg.enabled = true) (sound : (s.tier b.tier).fault = none)
    (motion : m.InRange) (priority : declared ≤ 7) (free : s.record i = none) : (s.acceptClaim b m declared i).Safe := by
  rw [State.acceptClaim_eq]
  refine (State.SafeIn.entered free (State.boundTo_eq_none.mp vacant) rfl (h.atScanning high) running enabled sound ?_
    trivial).rescan_safe h.links
  exact ⟨motion, max_le priority (h.settings.configs b.tier).bestPriority, h.projectedPose b.tier, nofun⟩

theorem State.Safe.checkClaim {b : Handle} {m : Motion} {declared : Nat} (vacant : s.boundTo b = none)
    (running : s.mode ≠ .config) (enabled : (s.tier b.tier).cfg.enabled = true) (sound : (s.tier b.tier).fault = none)
    (motion : m.InRange) (priority : declared ≤ 7) : (s.checkClaim b m declared).Safe := by
  unfold State.checkClaim
  dsimp only
  split_ifs
  · exact h.refuseClaim high vacant _
  · exact h.refuseClaim high vacant _
  · split
    · exact h.refuseClaim high vacant _
    · next found =>
      exact h.acceptClaim high vacant running enabled sound motion priority (State.lowestFree_spec found)

theorem State.Safe.arriveClaim {b : Handle} (enabled : (s.tier b.tier).cfg.enabled = true) (d : List Byte) :
    (s.arriveClaim b d).Safe := by
  unfold State.arriveClaim
  split
  · exact h.raise_settle high _ _ _ _
  next bound =>
  have vacant : s.boundTo b = none := by simpa using bound
  split
  · exact h.refuseClaim high vacant _
  next config =>
  split
  · exact h.refuseClaim high vacant _
  next state =>
  split
  · exact h.refuseClaim high vacant _
  · next found =>
    split
    · exact h.refuseClaim high vacant _
    · next less =>
      exact h.checkClaim high vacant config enabled (State.fault_of_tierState enabled state) (claimMotion_inRange found)
          (Nat.le_of_not_lt less)

/-- The oldest entry has left the MP inbound FIFO. -/
theorem State.Safe.mpTaken {e : MpEntry} {rest : List MpEntry} (oldest : s.mpFifo = e :: rest) :
    { s with mpFifo := rest }.Safe := by
  have old := h.links
  refine h.withLinks high (l := { s.links with mpFifo := rest }) { old with mpFifo := ?_ }
  have fits : s.mpFifo.length ≤ 16 := old.mpFifo
  rw [oldest] at fits
  exact Nat.le_of_succ_le fits

theorem State.Safe.takeClaim : s.takeClaim.Safe := by
  unfold State.takeClaim
  split
  · next oldest =>
    split_ifs with enabled
    · exact (h.mpTaken high oldest).arriveClaim high enabled _
    · exact h
  · exact h

theorem State.Safe.retireWaiting_rescan (i : RecNo) (r : Result) : (s.retireWaiting i r).rescan.Safe :=
  ((h.atScanning high).retireWaiting i r trivial).rescan_safe h.links

theorem State.Safe.stopRecord (i : RecNo) : (s.stopRecord i).Safe :=
  ((h.atDone high).stopRecord i).safe h.links

theorem State.Safe.repend (b : Handle) : (s.repend b).Safe :=
  ((h.atDone high).setMailbox_pending b true).safe h.links

theorem State.Safe.cancelHandle (b : Handle) : (s.cancelHandle b).Safe := by
  unfold State.cancelHandle
  split
  · exact h.raise_settle high _ _ _ _
  · split
    · exact h.retireWaiting_rescan high _ _
    · exact h.stopRecord high _
    · exact h.repend high b
    · exact h.repend high b

theorem State.Safe.takeCancel : s.takeCancel.Safe := by
  unfold State.takeCancel
  split
  · next oldest =>
    split_ifs
    · exact (h.mpTaken high oldest).cancelHandle high _
    · exact h
  · exact h

end Claims

end Sys2Proof.Machine
end

section
/-! SUPPORT. REPORT and RELEASE keep what holds between events (chapter 6). -/

namespace Sys2Proof.Machine

theorem trimmedArc_start {c : TierConfig} {g : Globals} (m : Motion) {gr : Grant} {p : Nat} (h : gr.arc.start ≤ 65535) :
    (trimmedArc c g m gr p).start ≤ 65535 := by
  have cw (w : Nat) : (trimCw g gr.arc w p).start ≤ 65535 := by
    unfold trimCw
    dsimp only
    split_ifs
    · exact Nat.le_of_lt_succ (ringSub_lt _ _)
    · exact h
  have ccw (w : Nat) : (trimCcw g gr.arc w p).start ≤ 65535 := by
    unfold trimCcw
    dsimp only
    split_ifs
    · exact h
    · exact h
  cases m with
  | slew dir target =>
    cases dir with
    | cw => exact cw _
    | ccw => exact ccw _
  | rake target => exact h
  | both dir target targetRake =>
    cases dir with
    | cw => exact cw _
    | ccw => exact ccw _

/-- A trim at a contained pose leaves an arc in range that takes no more space (R17). -/
theorem trimmedArc_sound {c : TierConfig} {g : Globals} (m : Motion) {gr : Grant} {p : Pose} (hc : c.InRange)
    (hg : g.InRange) (hgr : gr.InRange) (hp : p.InRange) (h : contained c g gr p = true) :
    (trimmedArc c g m gr p.pos).InRange ∧ (trimmedArc c g m gr p.pos).Narrows gr.arc := by
  obtain ⟨⟨shorter, nonempty, inside, -⟩, -⟩ := trimmedArc_keeps m hc hg hgr hp h
  have range : (trimmedArc c g m gr p.pos).InRange :=
    ⟨trimmedArc_start m hgr.arc.1, nonempty, shorter.trans hgr.arc.2.2⟩
  exact ⟨range, Arc.narrows_of_within range hgr.arc inside⟩

theorem State.noteClamp_eq (s : State) (t : TierNo) (slot : Option SlotNo) (raw : Nat) (p : Pose) :
    ∃ c b, s.noteClamp t slot raw p = { s with capture := c, second := b } := by
  unfold State.noteClamp
  split_ifs
  · rw [State.raise_eq]; exact ⟨_, _, rfl⟩
  · exact ⟨s.capture, s.second, rfl⟩

section Motion
variable {s : State} {k : Underway} {i : RecNo} {c : Claim} (h : s.SafeIn k)
include h

/-! ### What every REPORT and RELEASE writes (R103, R104, R117) -/

theorem State.SafeIn.noteClamp (t : TierNo) (slot : Option SlotNo) (raw : Nat) (p : Pose) (hk : k.attention) :
    (s.noteClamp t slot raw p).SafeIn k := by
  unfold State.noteClamp
  split_ifs
  · exact h.raise _ _ _ _ hk
  · exact h

theorem State.SafeIn.track (t : TierNo) {p : Pose} (pose : p.InRange) : (s.track t p).SafeIn k :=
  h.setTier_motion rfl pose (h.records.tiers t).lastSeq (h.records.tiers t).lease (h.countdowns.stopped t)
    (h.countdowns.running t)

theorem State.SafeIn.noteSequence (t : TierNo) {seq : Nat} (p : Pose) (low : seq ≤ 15) (hk : k.attention) :
    (s.noteSequence t seq p).SafeIn k := by
  have write {u : State} (hu : u.SafeIn k) :
      (u.setTier t { u.tier t with lastSeq := seq, haveSeq := true }).SafeIn k :=
    hu.setTier_motion rfl (hu.records.tiers t).tracked low (hu.records.tiers t).lease (hu.countdowns.stopped t)
      (hu.countdowns.running t)
  unfold State.noteSequence
  dsimp only
  split_ifs
  · exact write (h.raise _ _ _ _ hk)
  · exact write h

/-- The lease of a tier whose claim runs is reloaded (R112). -/
theorem State.SafeIn.reloadLease {t : TierNo} (running : (s.tier t).leaseRunning = true) :
    (s.reloadLease t).SafeIn k := by
  have period := h.settings.globals.leasePeriod
  exact h.setTier_motion rfl (h.records.tiers t).tracked (h.records.tiers t).lastSeq period.2 (fun _ => running)
    fun _ => .inl period.1

/-! ### A contained pose (R109, R111, R117) -/

theorem State.SafeIn.trimClaim {g : Grant} {p : Pose} {phase : Grant → Phase} (hc : s.Holds i c)
    (hg : c.phase = phase g) (trims : phase = .granted ∨ phase = .stopping) (pose : p.InRange)
    (inside : contained (s.tier c.handle.tier).cfg s.globals g p = true) : (s.trimClaim i c g p.pos phase).SafeIn k := by
  have grant : c.grant? = some g := by rcases trims with rfl | rfl <;> simp [Claim.grant?, hg]
  obtain ⟨range, narrow⟩ := trimmedArc_sound c.motion (h.settings.configs _) h.settings.globals
    ((h.records.claims i c hc).grant g grant) pose inside
  unfold State.trimClaim
  dsimp only
  split_ifs
  · exact h
  · exact (h.trim hc hg trims narrow range).rescan_within

/-- The claim's arc holds the footprint that becomes the standing arc, so that arc is clear of the other tiers (R53). -/
theorem State.SafeIn.retireAt {g : Grant} {p : Pose} (hc : s.Holds i c) (hg : c.grant? = some g) (r : Result)
    (pose : p.InRange) (inside : contained (s.tier c.handle.tier).cfg s.globals g p = true) (hk : k.attention) :
    (s.retireActive i c.handle g r p (footprint (s.tier c.handle.tier).cfg s.globals p)).SafeIn k := by
  have range := footprint_inRange (h.settings.configs c.handle.tier) h.settings.globals pose
  have narrow := Arc.narrows_of_within range ((h.records.claims i c hc).grant g hg).arc (contained_footprint inside).1
  exact h.retireActive hc hg r pose range (State.clearOfOthers_narrows narrow (h.clear_of_active hc hg)) hk

theorem State.SafeIn.containedReport {p : Pose} (hc : s.Holds i c) (pose : p.InRange) (moving : Bool)
    (inside : ∀ g, c.grant? = some g → contained (s.tier c.handle.tier).cfg s.globals g p = true) (hk : k.attention) :
    (s.containedReport i c p moving).SafeIn k := by
  unfold State.containedReport
  split
  · next g phase => exact h.trimClaim hc phase (.inl rfl) pose (inside g (by simp [Claim.grant?, phase]))
  · next g phase =>
    have grant : c.grant? = some g := by simp [Claim.grant?, phase]
    split_ifs
    · exact h.trimClaim hc phase (.inr rfl) pose (inside g grant)
    · exact (h.retireAt hc grant .stopped pose (inside g grant) hk).rescan_within
  · exact h
  · exact h

/-! ### REPORT (R105 to R111) -/

/-- An active claim of a tier without a fault kind runs its lease (R112, R127). -/
theorem State.SafeIn.runs_of_sound (hc : s.Holds i c) (active : c.phase ≠ .waiting)
    (sound : (s.tier c.handle.tier).fault = none) : (s.tier c.handle.tier).leaseRunning = true := by
  obtain ⟨g, grant⟩ := Claim.grant?_isSome active
  rw [h.leaseRunning_of_active hc active]
  rcases Claim.phase_of_grant? grant with phase | phase | phase
  · rw [phase]; rfl
  · rw [phase]; rfl
  · have faulted := h.faults.faulted i c g hc phase
    rw [sound] at faulted
    cases faulted

theorem State.SafeIn.superviseMoving {g : Grant} {p : Pose} (hc : s.Holds i c) (hg : c.grant? = some g)
    (sound : (s.tier c.handle.tier).fault = none) (pose : p.InRange) (moving : Bool) (hk : k.attention) :
    (s.superviseMoving c.handle.tier i c g p moving).SafeIn k := by
  have reloaded := h.reloadLease (h.runs_of_sound hc (Claim.active_of_grant? hg) sound)
  have cfg : ((s.reloadLease c.handle.tier).tier c.handle.tier).cfg = (s.tier c.handle.tier).cfg := by
    rw [State.reloadLease, State.setTier_tier_self]
  unfold State.superviseMoving
  dsimp only
  split_ifs with rake position
  · exact reloaded.hardFault _ _ _ _ hk
  · exact reloaded.hardFault _ _ _ _ hk
  · refine reloaded.containedReport hc pose moving (fun g' hg' => ?_) hk
    obtain rfl := Option.some.inj (hg.symm.trans hg')
    rw [cfg]
    change contained _ s.globals g p = true
    simpa [contained] using And.intro rake position

theorem State.SafeIn.superviseIdle (t : TierNo) (p : Pose) (moving : Bool) (hk : k.attention) :
    (s.superviseIdle t p moving).SafeIn k := by
  unfold State.superviseIdle
  split_ifs
  · exact h.hardFault _ _ _ _ hk
  · exact h

theorem State.SafeIn.supervise (t : TierNo) {p : Pose} (pose : p.InRange) (moving drive : Bool) (hk : k.attention) :
    (s.supervise t p moving drive).SafeIn k := by
  have going (state : ¬(s.tierState t = .unplaced ∨ s.tierState t = .faulted)) :
      (match s.activeClaim t with
        | none => s
        | some (i, c) =>
          match c.grant? with
          | none => s
          | some g => s.superviseMoving t i c g p moving).SafeIn k := by
    split
    · exact h
    · next i c found =>
      obtain ⟨hc, rfl, -⟩ := h.table.activeClaim_iff.mp found
      split
      · exact h
      · next g grant =>
        exact h.superviseMoving hc grant (State.fault_of_tierState (h.enabled_placed hc).1 state) pose moving hk
  unfold State.supervise
  split_ifs
  · exact h.hardFault _ _ _ _ hk
  · cases state : s.tierState t with
    | idle => exact h.superviseIdle t p moving hk
    | moving => exact going (by simp [state])
    | stopping => exact going (by simp [state])
    | faulted => exact h
    | unplaced => exact h
    | disabled => exact h

theorem State.SafeIn.handleReport (t : TierNo) {p : Pose} (pose : p.InRange) (moving drive : Bool) (hk : k.attention) :
    (s.handleReport t p moving drive).SafeIn k := by
  unfold State.handleReport
  split_ifs
  · exact h
  · exact h.supervise t pose moving drive hk

/-! ### RELEASE (R117) -/

theorem State.SafeIn.releaseGranted {g : Grant} {p : Pose} (hc : s.Holds i c) (hg : c.grant? = some g)
    (pose : p.InRange) (inside : contained (s.tier c.handle.tier).cfg s.globals g p = true) (hk : k.attention) :
    (s.releaseGranted i c g p).SafeIn k := by
  have raised := h.raise .shortArrival (some c.handle.tier) (some c.handle.slot) (some p) hk
  unfold State.releaseGranted
  dsimp only
  split_ifs
  · exact (h.retireAt hc hg .arrived pose inside hk).rescan_within
  · rw [State.raise_eq] at raised ⊢
    exact (raised.retireAt hc hg .short pose inside hk).rescan_within

end Motion

section Events
variable {s : State} (h : s.Safe) (high : s.resetHeld = false)
include h high

theorem State.Safe.arriveReport (t : TierNo) (d : List Byte) : (s.arriveReport t d).Safe := by
  have seq : (reportFields d).seq ≤ 15 := Nat.le_of_lt_succ (Nat.mod_lt _ (by decide))
  unfold State.arriveReport
  split_ifs
  · exact h
  · have pose := reportedPose_inRange (s.tier t).cfg (reportFields d).encoder (reportFields d).rake
    exact (((((h.atNoisy high).noteSequence t _ seq trivial).noteClamp t none _ _ trivial).track t pose).handleReport t pose
      _ _ trivial).settle_safe h.links

theorem State.Safe.takeReport : s.takeReport.Safe := by
  unfold State.takeReport
  split
  · next oldest =>
    split_ifs
    · exact (h.mpTaken high oldest).arriveReport high _ _
    · exact h
  · exact h

/-- R117: what follows a contained release keeps what holds. -/
theorem State.Safe.releaseChecked {i : RecNo} {c : Claim} (hc : s.Holds i c) (g : Grant) (d : List Byte)
    {done : State → Pose → State}
    (kept : ∀ (u : State) (p : Pose), u.SafeIn (.noisy s.links) → u.Holds i c → p.InRange →
      contained (u.tier c.handle.tier).cfg u.globals g p = true → (done u p).SafeIn (.noisy s.links)) :
    (s.releaseChecked c g d done).Safe := by
  have pose := reportedPose_inRange (s.tier c.handle.tier).cfg (word32At d 0) (word16At d 4)
  have tracked := ((h.atNoisy high).noteClamp c.handle.tier (some c.handle.slot) (word16At d 4)
    (reportedPose (s.tier c.handle.tier).cfg (word32At d 0) (word16At d 4)) trivial).track c.handle.tier pose
  unfold State.releaseChecked
  dsimp only
  split_ifs with inside
  · refine (kept _ _ tracked ?_ pose ?_).settle_safe h.links
    all_goals
      obtain ⟨_, _, clamped⟩ := s.noteClamp_eq c.handle.tier (some c.handle.slot) (word16At d 4)
        (reportedPose (s.tier c.handle.tier).cfg (word32At d 0) (word16At d 4))
      rw [clamped]
    · exact hc
    · rw [State.track, State.setTier_tier_self]
      exact inside
  · exact (tracked.hardFault _ _ _ _ trivial).settle_safe h.links

theorem State.Safe.arriveRelease (b : Handle) (d : List Byte) : (s.arriveRelease b d).Safe := by
  unfold State.arriveRelease
  split_ifs
  · split
    · exact h.raise_settle high _ _ _ _
    · next i c found =>
      have hc := (State.claimAt_spec found).1
      split
      · next g phase =>
        exact h.releaseChecked high hc g d fun u p hu held pose inside =>
          hu.releaseGranted held (by simp [Claim.grant?, phase]) pose inside trivial
      · next g phase =>
        exact h.releaseChecked high hc g d fun u p hu held pose inside =>
          (hu.retireAt held (by simp [Claim.grant?, phase]) .stopped pose inside trivial).rescan_within
      · exact h.repend high b
      · exact h.raise_settle high _ _ _ _
  · exact h.raise_settle high _ _ _ _

theorem State.Safe.takeRelease : s.takeRelease.Safe := by
  unfold State.takeRelease
  split
  · next oldest =>
    split_ifs
    · exact (h.mpTaken high oldest).arriveRelease high _ _
    · exact h
  · exact h

end Events

end Sys2Proof.Machine
end

section
/-! SUPPORT. A visit keeps what holds between events (R67 to R76). -/

namespace Sys2Proof.Machine

/-! ### What an evaluation computes is in range (R12 to R14, R73) -/

theorem claimArcStart_lt (m : Motion) (p d w : Nat) : claimArcStart m p d w < 65536 := by
  cases m with
  | slew dir target => cases dir <;> exact ringSub_lt _ _
  | rake target => exact ringSub_lt _ _
  | both dir target targetRake => cases dir <;> exact ringSub_lt _ _

theorem targetRakeFrom_le {m : Motion} {r : Nat} (hm : m.InRange) (hr : r ≤ 450) : targetRakeFrom m r ≤ 450 := by
  cases m with
  | slew dir target => exact hr
  | rake target => exact hm.2
  | both dir target targetRake => exact hm.2

theorem grantOf_inRange {c : TierConfig} {g : Globals} {m : Motion} {o : Pose} (hc : c.InRange) (hg : g.InRange)
    (hm : m.InRange) (ho : o.InRange) (reach : (admissionGeometry c g m o).dist ≤ 32767) :
    (grantOf c (admissionGeometry c g m o)).InRange := by
  have target := targetRakeFrom_le hm ho.2
  have width := halfWidthAt_bounds hc hg (Nat.min_le_right (envelopeHi m o.rake + g.rakeTol) 450)
  refine ⟨⟨Nat.le_of_lt_succ (claimArcStart_lt _ _ _ _), ?_, ?_⟩, ⟨?_, max_le ho.2 target⟩, ?_, ?_⟩
  · dsimp only [grantOf, admissionGeometry, sweepWidth]; omega
  · dsimp only [grantOf, admissionGeometry, sweepWidth] at reach ⊢; omega
  · exact (Nat.min_le_left _ _).trans (Nat.le_max_left _ _)
  · exact (ite_le_sup _ _ _).trans (max_le hc.slewDemand (Nat.zero_le _))
  · exact (ite_le_sup _ _ _).trans (max_le hc.rakeDemand (Nat.zero_le _))

/-! ### The visit -/

section Visit
variable {s : State} {k : Underway} {i : RecNo} {c : Claim} (h : s.SafeIn k) (scan : k.scan)
include h scan

/-- A scan that runs casts shadows (R74). -/
theorem State.SafeIn.withShadows (running : s.scan.running = true) (shadows : List Arc) (hyd slew : Bool) :
    { s with scan := { s.scan with shadows := shadows, hydShadow := hyd, slewShadow := slew } }.SafeIn k :=
  h.withScan (fun stopped => absurd (running.symm.trans stopped) nofun) h.marks.marks (.inl scan)

theorem State.SafeIn.unmark (running : s.scan.running = true) (i : RecNo) : (s.unmark i).SafeIn k := by
  refine h.withScan (c := (s.unmark i).scan) (fun stopped => absurd (running.symm.trans stopped) nofun) (fun j marked => ?_)
    (.inl scan)
  have kept : (s.unmark i).marked j = true := marked
  rw [State.unmark_marked, Bool.and_eq_true] at kept
  exact h.marks.marks j kept.1

/-- What passes space and pool test is granted, what fails one casts its shadow (R71 to R75). -/
theorem State.SafeIn.decideClaim {g : Grant} (running : s.scan.running = true) (hc : s.Holds i c)
    (waiting : c.phase = .waiting) (eligible : s.eligible c = true) (range : g.InRange)
    (ceiling : g.hi ≤ ceilingOver s.ceilings g.arc) (attention : k.attention) : (s.decideClaim i c g).SafeIn k := by
  unfold State.decideClaim
  split_ifs with space pools
  · exact h.withShadows scan running _ _ _
  · exact h.withShadows scan running _ _ _
  · simp only [State.eligible, Bool.and_eq_true, beq_iff_eq] at eligible
    obtain ⟨⟨run, head⟩, idle⟩ := eligible
    simp only [State.spaceTest, Bool.not_eq_true', Bool.not_eq_false, Bool.and_eq_true, List.all_eq_true,
      List.mem_finRange, true_imp_iff, Option.any_eq_false] at space
    obtain ⟨⟨clear, holds⟩, -⟩ := space
    simp only [State.poolTest, Pool.admits, Bool.not_eq_true', Bool.not_eq_false, Bool.and_eq_true, Bool.or_eq_true,
      beq_iff_eq, decide_eq_true_eq] at pools
    obtain ⟨hyd, slew⟩ := pools
    have sound := State.fault_of_tierState (h.enabled_placed hc).1 (by simp [idle])
    exact h.grant hc waiting head run sound range ceiling clear (fun j a hj => by simpa using holds j a hj)
      (hyd.imp_right And.right) (slew.imp_right And.right) scan attention

theorem State.SafeIn.evaluate (running : s.scan.running = true) (hc : s.Holds i c) (waiting : c.phase = .waiting)
    (eligible : s.eligible c = true) (attention : k.attention) : (s.evaluate i c).SafeIn k := by
  unfold State.evaluate
  dsimp only
  split_ifs with far high
  · exact (h.retireWaiting i _ scan).requestScan
  · exact (h.retireWaiting i _ scan).requestScan
  · have reach := Nat.le_of_not_lt fun beyond => far (decide_eq_true beyond)
    refine h.decideClaim scan running hc waiting eligible (grantOf_inRange (h.settings.configs _) h.settings.globals
      (h.records.claims i c hc).motion (h.records.tiers _).rest reach) ?_ attention
    simpa [ceilingCheck, grantOf] using high

theorem State.SafeIn.visitRecord (running : s.scan.running = true) (listed : i ∈ s.waitList) (attention : k.attention) :
    (s.visitRecord i).SafeIn k := by
  have unmarked := h.unmark scan running i
  obtain ⟨c, hc, waiting⟩ := (h.table.waitList.exact i).mp listed
  have held : (s.unmark i).record i = some c := hc
  unfold State.visitRecord
  rw [held]
  dsimp only
  split_ifs with eligible
  · exact unmarked.evaluate scan running hc waiting eligible attention
  · exact unmarked

end Visit

theorem State.Safe.visit {s : State} (h : s.Safe) (high : s.resetHeld = false) : s.visit.Safe := by
  have idle : s.endScan.SafeIn (.done s.links) :=
    (h.atDone high).withScan (fun _ => rfl) (fun i marked => absurd marked (idle_marks i)) (.inr nofun)
  have busy : s.SafeIn (.busy s.links) := h.opened high rfl
  unfold State.visit
  split_ifs with stopped mode
  · exact h
  · exact idle.safe h.links
  · have running : s.scan.running = true := by simpa using stopped
    split
    · exact State.SafeIn.safe (l := s.links) (h.atScanning high).closeScan h.links
    · next found =>
      have visited := busy.visitRecord trivial running (List.mem_of_find?_eq_some found) trivial
      exact State.SafeIn.safe (l := s.links) visited.closeScan.settle h.links

end Sys2Proof.Machine
end

section
/-! SUPPORT. Ticks and lease expiries keep what holds between events (R113, R114). -/

namespace Sys2Proof.Machine

theorem State.freezeHead_fault (s : State) (t v : TierNo) : ((s.freezeHead t).tier v).fault = (s.tier v).fault := by
  have frozen (i : RecNo) (c : Claim) (g : Grant) : ((s.freezeWith i c g).tier v).fault = (s.tier v).fault := by
    rw [State.freezeWith_tier]
    split_ifs with here
    · rw [here]
    · rfl
  unfold State.freezeHead
  split
  · rfl
  · split
    · exact frozen _ _ _
    · exact frozen _ _ _
    · rfl
    · rfl

/-- After a per-tier hard fault the tier has a fault kind (R127, R130). -/
theorem State.hardFault_fault (s : State) (t : TierNo) (f : HardKind) (slot : Option SlotNo) (p : Pose) :
    ((s.hardFault t f slot p).tier t).fault.isSome := by
  cases fault : (s.tier t).fault with
  | none =>
    rw [State.hardFault_first f slot p fault, State.hardFaultEvent_eq]
    dsimp only
    split_ifs <;> cases (s.raise (.tier f) (some t) slot (some p)).spaceRecord t <;> simp [State.freezeHead_fault]
  | some f' => rw [State.hardFault_again f slot p fault, State.raise_tier, fault, Option.isSome_some]

theorem State.lowerLeases_tier (s : State) (t : TierNo) : s.lowerLeases.tier t = (s.tier t).tick := by
  simp [State.lowerLeases, State.tier]

/-- A tick changes a countdown alone, and lowers it (R113). -/
theorem Tier.tick_eq (r : Tier) : r.tick = { r with lease := r.tick.lease } ∧ r.tick.lease ≤ r.lease := by
  unfold Tier.tick
  split_ifs
  · exact ⟨rfl, Nat.sub_le _ _⟩
  · exact ⟨rfl, Nat.le_refl _⟩

section Lease
variable {s : State} {k : Underway} (h : s.SafeIn k)
include h

/-- Each running lease that a tick brings to 0 is late from then on (R113). -/
theorem State.SafeIn.lowerLeases : s.lowerLeases.SafeIn { k with late := fun _ => True } := by
  have eq (t : TierNo) := (Tier.tick_eq (s.tier t)).1
  have same {α : Type} (f : Tier → α) (blind : ∀ r n, f { r with lease := n } = f r) (t : TierNo) :
      f (s.tiers.map Tier.tick)[t] = f (s.tier t) := by
    have lowered := s.lowerLeases_tier t
    rw [eq t] at lowered
    exact (congrArg f lowered).trans (blind _ _)
  have lease (t : TierNo) : (s.tiers.map Tier.tick)[t].lease ≤ (s.tier t).lease :=
    (congrArg Tier.lease (s.lowerLeases_tier t)).trans_le (Tier.tick_eq (s.tier t)).2
  have cfg := same Tier.cfg fun _ _ => rfl
  have legs := same Tier.legs fun _ _ => rfl
  have runs := same Tier.leaseRunning fun _ _ => rfl
  have fault := same Tier.fault fun _ _ => rfl
  have space (t : TierNo) := h.spaceRecord_withTiers legs (cfg t) (same Tier.standing (fun _ _ => rfl) t)
  refine h.withTiers cfg legs (fun t => ?_) (fun t => ?_) (fun config t v a b ne ha hb => ?_) runs (fun t late => ?_)
    (fun _ _ => .inr trivial) ⟨fun i c hc => ?_, fun i c g hc => ?_⟩ (.inr (same Tier.shows fun _ _ => rfl))
  · have old := h.records.tiers t
    exact
      { rest := (same Tier.rest (fun _ _ => rfl) t).symm ▸ old.rest
        tracked := (same Tier.tracked (fun _ _ => rfl) t).symm ▸ old.tracked
        standing := (same Tier.standing (fun _ _ => rfl) t).symm ▸ old.standing
        lastSeq := (same Tier.lastSeq (fun _ _ => rfl) t).symm ▸ old.lastSeq
        lease := (lease t).trans old.lease }
  · rw [same Tier.placed fun _ _ => rfl]
    exact id
  · exact h.active.space config t v a b ne (space t ▸ ha) (space v ▸ hb)
  · rw [runs]
    exact h.countdowns.stopped t (late.trans (lease t))
  · have old := h.faults.frozen i c hc
    rw [← fault] at old
    exact old
  · have old := h.faults.faulted i c g hc
    rw [← fault] at old
    exact old

/-- A tier whose lease does not run at 0 is not late (R113). -/
theorem State.SafeIn.dropLate {t : TierNo} (punctual : (s.tier t).leaseRunning = true → 1 ≤ (s.tier t).lease) :
    s.SafeIn { k with late := fun v => k.late v ∧ v ≠ t } :=
  { h with
    countdowns := ⟨h.countdowns.stopped, fun v running => by
      by_cases here : v = t
      · subst here; exact .inl (punctual running)
      · exact (h.countdowns.running v running).imp_right fun late => ⟨late, here⟩⟩ }

/-- An expiry: the tier's claims are FROZEN after it, so its lease has stopped (R114). -/
theorem State.SafeIn.expire (t : TierNo) (attention : k.attention) (closed : ¬k.failing t) :
    (s.expire t).SafeIn { k with late := fun v => k.late v ∧ v ≠ t } := by
  have failed := h.hardFault t .lease (s.activeSlot t) (s.tier t).tracked attention
  have fault := s.hardFault_fault t .lease (s.activeSlot t) (s.tier t).tracked
  have old := failed.records.tiers t
  have stopped : ((s.hardFault t .lease (s.activeSlot t) (s.tier t).tracked).tier t).leaseRunning = false := by
    rw [← Bool.not_eq_true, failed.active.runs]
    rintro ⟨i, c, hc, rfl, runs⟩
    obtain ⟨g, frozen⟩ := (failed.faults.frozen i c hc fault).resolve_right closed
    rw [frozen] at runs
    cases runs
  refine State.SafeIn.dropLate (failed.setTier (t := t)
    (r := { (s.hardFault t .lease (s.activeSlot t) (s.tier t).tracked).tier t with lease := 0, leaseRunning := false }) rfl rfl
    { old with lease := Nat.zero_le _ } id (.inl rfl) stopped.symm nofun nofun (fun i c hc here => here ▸ failed.faults.frozen i c hc) (fun i c g hc here => here ▸ failed.faults.faulted i c g hc)
    (.inl attention)) fun running => ?_
  rw [State.setTier_tier_self] at running
  cases running

theorem State.SafeIn.expireIfDue (t : TierNo) (attention : k.attention) (closed : ¬k.failing t) :
    (s.expireIfDue t).SafeIn { k with late := fun v => k.late v ∧ v ≠ t } := by
  unfold State.expireIfDue
  split_ifs with due
  · exact h.expire t attention closed
  · refine h.dropLate fun running => Nat.pos_of_ne_zero fun zero => due ?_
    simp [Tier.expired, running, zero]

end Lease

/-- The expiries of one tick leave no tier of the list late (R113). -/
theorem State.SafeIn.expireAll {l : Links} (order : List TierNo) {s : State}
    (h : s.SafeIn { Underway.noisy l with late := fun t => t ∈ order }) :
    (order.foldl State.expireIfDue s).SafeIn (.noisy l) := by
  induction order generalizing s with
  | nil => exact h.mono rfl (fun _ => List.not_mem_nil) (fun _ => id) id id
  | cons t order ih =>
    refine ih ((h.expireIfDue t trivial id).mono rfl (fun v late => ?_) (fun _ => id) id id)
    exact (List.mem_cons.mp late.1).resolve_left late.2

section Events
variable {s : State} (h : s.Safe) (high : s.resetHeld = false)
include h high

theorem State.Safe.tickAll (order : List TierNo) : (s.tickAll order).Safe := by
  refine (State.SafeIn.expireAll _ ((h.atNoisy high).lowerLeases.mono rfl (fun t _ => ?_) (fun _ => id) id id)).settle_safe
    h.links
  exact List.mem_append_right _ (List.mem_finRange t)

theorem State.Safe.leaseExpiry (t : TierNo) : (s.leaseExpiry t).Safe := by
  unfold State.leaseExpiry
  split_ifs
  · have old := h.records.tiers t
    have opened : s.SafeIn { Underway.noisy s.links with late := fun v => v = t } := h.opened high rfl
    have lowered := opened.setTier (t := t) (r := { s.tier t with lease := 0 }) rfl rfl { old with lease := Nat.zero_le _ } id
      (.inl rfl) rfl nofun (fun _ => .inr rfl) (fun i c hc here => here ▸ opened.faults.frozen i c hc)
      (fun i c g hc here => here ▸ opened.faults.faulted i c g hc) (.inl trivial)
    have expired : ((s.setTier t { s.tier t with lease := 0 }).expire t).SafeIn (.noisy s.links) :=
      (lowered.expire t trivial id).mono rfl (fun v late => late.2 late.1) (fun _ => id) id id
    exact expired.settle_safe h.links
  · exact h

end Events

end Sys2Proof.Machine
end

section
/-! SUPPORT. The part with no claim, in CONFIG: after a reset, and after what the console writes there. -/

namespace Sys2Proof.Machine

/-- No claim stands, and nothing that claims keep up (chapter 3). -/
structure State.TableEmpty (s : State) : Prop where
  records : ∀ i, s.record i = none
  waitList : s.waitList = []
  legs : ∀ t, (s.tier t).legs = []
  mailboxes : ∀ b, (s.mailbox b).state = .free
  permit : ∀ t, s.permitLine t = false
  running : ∀ t, (s.tier t).leaseRunning = false
  lease : ∀ t, (s.tier t).lease = 0
  pools : s.hyd.committed = 0 ∧ s.slew.committed = 0

section Empty
variable {s u : State}

theorem State.TableEmpty.no_claim (h : s.TableEmpty) {i : RecNo} {c : Claim} (hc : s.Holds i c) : False := by
  rw [State.Holds, h.records i] at hc
  cases hc

theorem State.TableEmpty.membersLeft (h : s.TableEmpty) : s.membersLeft = false := by
  rw [State.membersLeft, h.waitList, List.any_nil]

theorem State.TableEmpty.poolsBalance (h : s.TableEmpty) : s.PoolsBalance where
  hyd := by simp [h.pools.1, h.records, hydDrawn]
  slew := by simp [h.pools.2, h.records, slewDrawn]
  bounded := by rw [h.pools.1, h.pools.2]; exact ⟨Nat.zero_le _, Nat.zero_le _⟩

/-- In CONFIG with no claim all that is left of the invariant are ranges, links, capture and flags. -/
theorem State.TableEmpty.safe (h : s.TableEmpty) (config : s.mode = .config) (tiers : ∀ t, (s.tier t).InRange)
    (settings : s.SettingsInRange) (links : s.links.Safe) (held : s.HeldExact) (capture : s.CaptureConsistent)
    (scan : s.scan = Scan.idle) (attention : s.AttentionFollows) : s.Safe where
  handles _ _ _ _ hc := (h.no_claim hc).elim
  waitList :=
    { nodup := h.waitList ▸ List.nodup_nil
      exact := fun i => by
        rw [h.waitList]
        exact iff_of_false List.not_mem_nil fun ⟨_, hc, _⟩ => h.no_claim hc
      ordered := h.waitList ▸ List.Pairwise.nil }
  legQueues :=
    { nodup := fun t => h.legs t ▸ List.nodup_nil
      exact := fun t k => by
        rw [h.legs t]
        exact iff_of_false List.not_mem_nil fun ⟨_, _, hc, _⟩ => h.no_claim hc
      behindHead := fun _ _ _ _ _ hc => (h.no_claim hc).elim }
  mailboxes := ⟨fun _ _ hc => (h.no_claim hc).elim, fun b _ => h.mailboxes b⟩
  permit t := iff_of_false (by rw [h.permit t]; nofun) fun ⟨_, _, _, hc, _⟩ => h.no_claim hc
  leases :=
    { runs := fun t => iff_of_false (by rw [h.running t]; nofun) fun ⟨_, _, _, hc, _⟩ => h.no_claim hc
      countdown := fun t => iff_of_false (by rw [h.running t]; nofun) (by rw [h.lease t]; nofun) }
  faults := ⟨fun _ _ hc => (h.no_claim hc).elim, fun _ _ _ hc => (h.no_claim hc).elim⟩
  grantedOnlyInRun _ _ _ hc := (h.no_claim hc).elim
  configEmpty _ := h.records
  placed := ⟨fun other => absurd config other, fun _ _ hc => (h.no_claim hc).elim⟩
  pools := h.poolsBalance
  holds _ _ _ _ _ hc := (h.no_claim hc).elim
  ceilings _ _ _ hc := (h.no_claim hc).elim
  space other := absurd config other
  settings := settings
  records := ⟨tiers, fun _ _ hc => (h.no_claim hc).elim⟩
  fifos := ⟨links.mpFifo, links.cpFifo, links.replies⟩
  replyInFlight := links.inFlight
  held := held
  ports := ⟨links.mpPort, links.cpPort, links.mpTx, links.cpTx⟩
  capture := capture
  scan :=
    { idle := fun _ => scan
      members := by rw [scan]; nofun
      marks := fun i marked => by
        rw [State.marked, scan] at marked
        exact absurd marked (idle_marks i) }
  attention := attention

/-- No claim stands in CONFIG (R20). -/
theorem State.Safe.tableEmpty (h : s.Safe) (config : s.mode = .config) : s.TableEmpty := by
  have none := h.configEmpty config
  have gone {i : RecNo} {c : Claim} (hc : s.Holds i c) : False := by
    rw [State.Holds, none i] at hc
    cases hc
  have running (t : TierNo) : (s.tier t).leaseRunning = false :=
    Bool.eq_false_iff.mpr fun runs => by
      obtain ⟨_, _, _, hc, -⟩ := (h.leases.runs t).mp runs
      exact gone hc
  exact
    { records := none
      waitList := List.eq_nil_iff_forall_not_mem.mpr fun i listed => by
        obtain ⟨_, hc, -⟩ := (h.waitList.exact i).mp listed
        exact gone hc
      legs := fun t => List.eq_nil_iff_forall_not_mem.mpr fun k queued => by
        obtain ⟨_, _, hc, -⟩ := (h.legQueues.exact t k).mp queued
        exact gone hc
      mailboxes := fun b => h.mailboxes.vacant b fun _ _ hc => (gone hc).elim
      permit := fun t => Bool.eq_false_iff.mpr fun on => by
        obtain ⟨_, _, _, hc, -⟩ := (h.permit t).mp on
        exact gone hc
      running := running
      lease := fun t => Nat.eq_zero_of_not_pos fun left => by
        have runs := (h.leases.countdown t).mpr left
        rw [running t] at runs
        cases runs
      pools := by
        rw [h.pools.hyd, h.pools.slew]
        simp [none, hydDrawn, slewDrawn] }

/-- No scan runs in CONFIG, for want of members (R66). -/
theorem State.Safe.scan_idle (h : s.Safe) (config : s.mode = .config) : s.scan = Scan.idle := by
  refine h.scan.idle (Bool.eq_false_iff.mpr fun running => ?_)
  have members := h.scan.members running
  rw [(h.tableEmpty config).membersLeft] at members
  cases members

theorem State.TableEmpty.setTier (h : s.TableEmpty) {t : TierNo} {r : Tier} (legs : r.legs = (s.tier t).legs)
    (running : r.leaseRunning = (s.tier t).leaseRunning) (lease : r.lease = (s.tier t).lease) :
    (s.setTier t r).TableEmpty where
  records := h.records
  waitList := h.waitList
  legs v := by
    rw [State.setTier_tier]
    split_ifs
    · rw [legs, h.legs]
    · exact h.legs v
  mailboxes := h.mailboxes
  permit := h.permit
  running v := by
    rw [State.setTier_tier]
    split_ifs
    · rw [running, h.running]
    · exact h.running v
  lease v := by
    rw [State.setTier_tier]
    split_ifs
    · rw [lease, h.lease]
    · exact h.lease v
  pools := h.pools

theorem State.heldExact_of_high (high : s.resetHeld = false) : s.HeldExact :=
  fun low => absurd (high.symm.trans low) nofun

theorem State.settle_follows (high : s.resetHeld = false) : s.settle.AttentionFollows :=
  ⟨rfl, fun _ => rfl, fun low => absurd (high.symm.trans low) nofun⟩

end Empty

/-! ### Resets (R143) -/

section Reset
variable {s : State}

theorem Port.powerOn_consistent (straps : RateStraps) : (Port.powerOn straps).Consistent :=
  ⟨Nat.zero_le _, Nat.zero_le _, rfl⟩

theorem Tier.powerOn_inRange : Tier.powerOn.InRange :=
  ⟨by decide, by decide, nofun, by decide, by decide⟩

theorem State.powerOnValues_empty (straps : StrapPins) (low : Bool) : (s.powerOnValues straps low).TableEmpty where
  records i := by simp [State.powerOnValues, State.reset, State.record]
  waitList := rfl
  legs t := by simp [State.powerOnValues, State.reset, State.tier, Tier.powerOn]
  mailboxes b := by simp [State.powerOnValues, State.reset, State.mailbox]
  permit t := by simp [State.powerOnValues, State.reset, State.permitLine]
  running t := by simp [State.powerOnValues, State.reset, State.tier, Tier.powerOn]
  lease t := by simp [State.powerOnValues, State.reset, State.tier, Tier.powerOn]
  pools := ⟨rfl, rfl⟩

theorem State.powerOnValues_tier (s : State) (straps : StrapPins) (low : Bool) (t : TierNo) :
    (s.powerOnValues straps low).tier t = Tier.powerOn := by
  simp [State.powerOnValues, State.reset, State.tier]

theorem State.powerOnValues_links (straps : StrapPins) (low : Bool) : (s.powerOnValues straps low).links.Safe where
  mpFifo := Nat.zero_le _
  cpFifo := Nat.zero_le _
  replies := Nat.zero_le _
  inFlight := nofun
  mpPort := Port.powerOn_consistent _
  cpPort := Port.powerOn_consistent _
  mpTx := nofun
  cpTx := nofun

theorem State.powerOnValues_conditions (straps : StrapPins) (low : Bool) :
    (s.powerOnValues straps low).conditions = (s.powerOnValues straps low).flags := by
  have sound : (s.powerOnValues straps low).anyFaulted = false := by
    simp [State.anyFaulted, State.tierState_eq_faulted, State.powerOnValues_tier s, Tier.shows, Tier.powerOn,
      TierConfig.powerOn]
  simp only [State.conditions, sound]
  rfl

/-- Power-on values with the line of RESETN at a level and ATTN as R174 says of it. -/
theorem State.powerOnValues_safe (straps : StrapPins) (low : Bool) {held attn : Bool}
    (exact : { s.powerOnValues straps low with resetHeld := held, attn := attn }.HeldExact)
    (high : held = false → attn = (s.powerOnValues straps low).flags.raises (s.powerOnValues straps low).enables)
    (drops : held = true → attn = false) : { s.powerOnValues straps low with resetHeld := held, attn := attn }.Safe := by
  have empty := s.powerOnValues_empty straps low
  refine State.TableEmpty.safe
    ⟨empty.records, empty.waitList, empty.legs, empty.mailboxes, empty.permit, empty.running, empty.lease, empty.pools⟩
    rfl (fun t => ?_) ?_ (s.powerOnValues_links straps low) exact nofun rfl
    ⟨(s.powerOnValues_conditions straps low).symm, high, drops⟩
  · exact (s.powerOnValues_tier straps low t).symm ▸ Tier.powerOn_inRange
  · exact reset_settingsInRange.of_settings_eq rfl

theorem State.powerOnReset_safe (s : State) (cause : ResetCause) (low : Bool) : (s.powerOnReset cause low).Safe := by
  cases cause with
  | powerUp straps => exact State.powerOnValues_safe straps low (fun _ => rfl) nofun fun _ => rfl
  | resetnLow => exact State.powerOnValues_safe s.straps low (fun _ => rfl) nofun fun _ => rfl

theorem State.resetnRise_safe (s : State) (straps : StrapPins) (low : Bool) : (s.resetnRise straps low).Safe :=
  State.powerOnValues_safe (held := false) straps low nofun (fun _ => rfl) nofun

end Reset

end Sys2Proof.Machine
end

section
/-! SUPPORT. STOPN, and the events of the two links, keep what holds between events (chapters 8 to 10). -/

namespace Sys2Proof.Machine

/-! ### Ports (R158, R159) -/

section Port
variable {p : Port}

/-- A port is in BUS-OFF exactly at the highest transmit error count (R158). -/
theorem Port.Consistent.busOff_iff (h : p.Consistent) : p.link = .busOff ↔ 256 ≤ p.txErrors := by
  rw [h.link, Port.relink]
  dsimp only
  split_ifs <;> simp_all

theorem Port.relink_consistent (tx : p.txErrors ≤ 256) (rx : p.rxErrors ≤ 255) : p.relink.Consistent :=
  ⟨tx, rx, rfl⟩

theorem Port.Consistent.received (h : p.Consistent) :
    p.received.Consistent ∧ (p.received.link = .busOff → p.link = .busOff) := by
  have after : p.received.Consistent := Port.relink_consistent h.tx ((Nat.sub_le _ _).trans h.rx)
  exact ⟨after, fun off => h.busOff_iff.mpr (after.busOff_iff.mp off)⟩

theorem Port.Consistent.receiveError (h : p.Consistent) :
    p.receiveError.Consistent ∧ (p.receiveError.link = .busOff → p.link = .busOff) := by
  unfold Port.receiveError
  split_ifs with off
  · exact ⟨h, id⟩
  · have after : ({ p with rxErrors := min 255 (p.rxErrors + 1) } : Port).relink.Consistent :=
      Port.relink_consistent h.tx (Nat.min_le_left _ _)
    exact ⟨after, fun off' => h.busOff_iff.mpr (after.busOff_iff.mp off')⟩

theorem Port.Consistent.sent (h : p.Consistent) : p.sent.Consistent :=
  Port.relink_consistent ((Nat.sub_le _ _).trans h.tx) h.rx

theorem Port.Consistent.sendFailed (h : p.Consistent) (why : TxFailure) : (p.sendFailed why).Consistent := by
  have counted : p.sendError.Consistent := Port.relink_consistent (Nat.min_le_left _ _) h.rx
  unfold Port.sendFailed
  split
  · exact h
  · split_ifs
    · exact counted
    · exact h
  · exact counted
  · exact counted
  · exact counted
  · exact counted

theorem Port.Consistent.recover (h : p.Consistent) : p.recover.Consistent ∧ p.recover.link ≠ .busOff := by
  unfold Port.recover
  split_ifs with off
  · exact ⟨⟨Nat.zero_le _, Nat.zero_le _, rfl⟩, nofun⟩
  · exact ⟨h, off⟩

end Port

/-! ### Links -/

section Links
variable {l : Links} (h : l.Safe)
include h

theorem Links.Safe.withMpPort {p : Port} (port : p.Consistent) (tx : p.link = .busOff → l.mpTx = none) :
    { l with mpPort := p }.Safe :=
  { h with mpPort := port, mpTx := tx }

theorem Links.Safe.withCpPort {p : Port} (port : p.Consistent) (tx : p.link = .busOff → l.cpTx = none) :
    { l with cpPort := p }.Safe :=
  { h with cpPort := port, cpTx := tx }

theorem Links.Safe.pushMp (e : MpEntry) (room : l.mpFifo.length < 16) : { l with mpFifo := l.mpFifo ++ [e] }.Safe :=
  { h with mpFifo := by dsimp only; rw [List.length_append]; exact room }

theorem Links.Safe.pushCp (e : CpEntry) (room : l.cpFifo.length < 16) : { l with cpFifo := l.cpFifo ++ [e] }.Safe :=
  { h with cpFifo := by dsimp only; rw [List.length_append]; exact room }

/-- A reply at the tail leaves the oldest reply what it is (R166, R167). -/
theorem Links.Safe.pushReply (r : Reply) (room : l.replies.length < 16) : { l with replies := l.replies ++ [r] }.Safe :=
  { h with
    replies := by dsimp only; rw [List.length_append]; exact room
    inFlight := fun x sent => by
      dsimp only
      rw [List.head?_append, h.inFlight x sent, Option.some_or] }

end Links

/-! ### STOPN (R147, R148) -/

/-- After a stop of every claim none is GRANTED, so HALT may be entered (R147). -/
theorem State.SafeIn.enterHalt {s : State} {k : Underway} (h : s.SafeIn k) (hk : k.attention) (running : s.mode = .run) :
    s.enterHalt.SafeIn k := by
  have stopped : (s.withStopped fun _ _ => true).SafeIn k := State.stopWhere_eq s _ ▸ h.stopWhere _
  have mode : (s.withStopped fun _ _ => true).mode = .run := by unfold State.withStopped; exact running
  have halted : { s with mode := .halt }.withStopped (fun _ _ => true) =
      { s.withStopped (fun _ _ => true) with mode := .halt } := by
    unfold State.withStopped
    rfl
  rw [State.enterHalt, State.stopWhere_eq, halted]
  refine stopped.withMode hk (.inr fun i c g hc granted => ?_) nofun fun config => ?_
  · exact absurd (State.withStopped_granted hc granted).2 nofun
  · rw [mode] at config
    cases config

section Events
variable {s : State} (h : s.Safe) (high : s.resetHeld = false)
include h high

/-- The level of STOPN is a condition of the flags alone. -/
theorem State.Safe.withStopn (low : Bool) : { s with stopnLow := low }.SafeIn (.noisy s.links) :=
  (h.atNoisy high).of_quiet rfl (.inl trivial)

theorem State.Safe.stopnAssert : s.stopnAssert.Safe := by
  have low := h.withStopn high true
  have raised := low.raise .hallStop none none none trivial
  unfold State.stopnAssert
  dsimp only
  split
  · exact low.settle_safe h.links
  · next running =>
    exact (raised.enterHalt trivial (by rw [State.raise_mode]; exact running)).settle_safe h.links
  · exact raised.settle_safe h.links

theorem State.Safe.stopnRise : s.stopnRise.Safe :=
  (h.withStopn high false).settle_safe h.links

/-! ### The machinery link (R154 to R161) -/

theorem State.Safe.mpReceived : s.mpReceived.Safe := by
  obtain ⟨port, off⟩ := h.ports.mp.received
  exact h.withLinks high (h.links.withMpPort port fun now => h.ports.mpTx (off now))

theorem State.Safe.mpAccept (c : MpClass) (b : Handle) (d : List Byte) : (s.mpAccept c b d).Safe := by
  unfold State.mpAccept
  split_ifs with short room
  · exact h.raise_settle high _ _ _ _
  · exact h.withLinks high (h.links.pushMp (mpEntryOf c b d) room)
  · exact h.raise_settle high _ _ _ _

theorem State.Safe.mpArrival (f : Frame) : (s.mpArrival f).Safe := by
  unfold State.mpArrival
  split_ifs
  · exact h
  · exact h.mpReceived high
  · split
    · unfold State.mpIgnore
      split_ifs
      · exact h.mpReceived high
      · exact h
    · exact (h.mpReceived high).mpAccept high _ _ _

theorem State.Safe.mpReceiveError : { s with mpPort := s.mpPort.receiveError }.Safe := by
  obtain ⟨port, off⟩ := h.ports.mp.receiveError
  exact h.withLinks high (h.links.withMpPort port fun now => h.ports.mpTx (off now))

theorem State.Safe.mpRecovery : { s with mpPort := s.mpPort.recover }.Safe := by
  obtain ⟨port, on⟩ := h.ports.mp.recover
  exact h.withLinks high (h.links.withMpPort port fun off => absurd off on)

theorem State.Safe.discardDisabled : s.discardDisabled.Safe := by
  unfold State.discardDisabled
  split
  · exact h
  · next oldest =>
    split_ifs
    · exact h
    · exact h.mpTaken high oldest

theorem State.Safe.noticeStart : s.noticeStart.Safe := by
  unfold State.noticeStart
  split_ifs with busy
  · exact h
  · split
    · exact h
    · next i found =>
      have cleared := (h.atDone high).setMailbox_pending (handleOfIndex i) false
      have old := h.links
      exact State.SafeIn.safe (cleared.withLinks { s.links with
        mpTx := some ⟨handleOfIndex i, (s.mailbox (handleOfIndex i)).state, (s.mailbox (handleOfIndex i)).result⟩ })
        { old with mpTx := fun off => absurd (.inl off) busy }

theorem State.Safe.noticeComplete : s.noticeComplete.Safe := by
  have old := h.links
  unfold State.noticeComplete
  split
  · exact h
  · exact h.withLinks high (l := { s.links with mpTx := none, mpPort := s.mpPort.sent })
      { old with mpPort := h.ports.mp.sent, mpTx := fun _ => rfl }

theorem State.Safe.noticeFail (why : TxFailure) : (s.noticeFail why).Safe := by
  have old := h.links
  unfold State.noticeFail
  split
  · exact h
  · next n sent =>
    exact State.SafeIn.safe (((h.atDone high).setMailbox_pending n.handle true).withLinks
      { s.links with mpTx := none, mpPort := s.mpPort.sendFailed why })
      { old with mpPort := h.ports.mp.sendFailed why, mpTx := fun _ => rfl }

/-! ### The console link (R164, R165, R167) -/

theorem State.Safe.cpAccept (d : List Byte) : (s.cpAccept d).Safe := by
  unfold State.cpAccept
  split_ifs with room
  · exact h.withLinks high (h.links.pushCp ⟨d.take 16, d.length⟩ room)
  · exact h.raise_settle high _ _ _ _

theorem State.Safe.cpArrival (f : Frame) : (s.cpArrival f).Safe := by
  obtain ⟨port, off⟩ := h.ports.cp.received
  have received : { s with cpPort := s.cpPort.received }.Safe :=
    h.withLinks high (h.links.withCpPort port fun now => h.ports.cpTx (off now))
  unfold State.cpArrival
  dsimp only
  split_ifs
  · exact h
  · exact received.cpAccept high _
  · exact received

theorem State.Safe.cpReceiveError : { s with cpPort := s.cpPort.receiveError }.Safe := by
  obtain ⟨port, off⟩ := h.ports.cp.receiveError
  exact h.withLinks high (h.links.withCpPort port fun now => h.ports.cpTx (off now))

theorem State.Safe.cpRecovery : { s with cpPort := s.cpPort.recover }.Safe := by
  obtain ⟨port, on⟩ := h.ports.cp.recover
  exact h.withLinks high (h.links.withCpPort port fun off => absurd off on)

theorem State.Safe.replyStart : s.replyStart.Safe := by
  have old := h.links
  unfold State.replyStart
  split_ifs with busy
  · exact h
  · split
    · exact h
    · next r rest oldest =>
      refine h.withLinks high (l := { s.links with cpTx := some r })
        { old with inFlight := ?_, cpTx := fun off => absurd (.inl off) busy }
      rintro _ ⟨⟩
      exact congrArg List.head? oldest

theorem State.Safe.replyComplete : s.replyComplete.Safe := by
  have old := h.links
  unfold State.replyComplete
  split
  · exact h
  · refine h.withLinks high (l := { s.links with cpTx := none, replies := s.replies.tail, cpPort := s.cpPort.sent })
      { old with replies := ?_, inFlight := nofun, cpPort := h.ports.cp.sent, cpTx := fun _ => rfl }
    rw [List.length_tail]
    exact (Nat.sub_le _ _).trans h.fifos.replies

theorem State.Safe.replyFail (why : TxFailure) : (s.replyFail why).Safe := by
  have old := h.links
  unfold State.replyFail
  split
  · exact h
  · exact h.withLinks high (l := { s.links with cpTx := none, cpPort := s.cpPort.sendFailed why })
      { old with inFlight := nofun, cpPort := h.ports.cp.sendFailed why, cpTx := fun _ => rfl }

end Events

end Sys2Proof.Machine
end

section
/-! SUPPORT. Console commands keep what holds between events (chapters 2, 3, 5, 7, 8, 10 and 11). -/

namespace Sys2Proof.Machine

/-- The execution of a command: what the command does leaves the links alone, and its reply finds room (R166). -/
theorem State.Safe.executeIf {s : State} (h : s.Safe) (high : s.resetHeld = false) (due : CpEntry → Bool)
    {run : CpEntry → State → State × Answer}
    (kept : ∀ (e : CpEntry) (u : State), u.Safe → u.resetHeld = false → (run e u).1.SafeIn (.done u.links)) :
    (s.executeIf due run).Safe := by
  unfold State.executeIf
  split
  · exact h
  · next e rest oldest =>
    split_ifs with now
    · have room : s.replies.length < 16 := of_decide_eq_true (Bool.and_eq_true_iff.mp now).1
      have old := h.links
      have fits : s.cpFifo.length ≤ 16 := old.cpFifo
      rw [oldest] at fits
      have taken : { s.links with cpFifo := rest }.Safe := { old with cpFifo := Nat.le_of_succ_le fits }
      have ran := kept e { s with cpFifo := rest } (h.withLinks high taken) high
      have links : (run e { s with cpFifo := rest }).1.links = { s.links with cpFifo := rest } := ran.links
      refine State.SafeIn.safe (ran.withLinks { (run e { s with cpFifo := rest }).1.links with
        replies := (run e { s with cpFifo := rest }).1.links.replies ++ [(run e { s with cpFifo := rest }).2.reply e.tag] }) ?_
      rw [links]
      exact taken.pushReply _ room
    · exact h

section Commands
variable {s : State} (h : s.Safe) (high : s.resetHeld = false)
include h high

/-! ### Status, faults, cursor (R137, R138, R170 to R174) -/

theorem State.Safe.setMask (e : CpEntry) : (doSetMask e s).1.SafeIn (.done s.links) :=
  (h.atDone high).of_quiet rfl
    (.inr ⟨h.attention.flags, fun _ => rfl, fun low => absurd (high.symm.trans low) nofun⟩)

theorem State.Safe.clearFault (e : CpEntry) : (doClearFault e s).1.SafeIn (.done s.links) := by
  have old := h.atNoisy high
  have cleared : { s with capture := none, second := false }.SafeIn (.noisy s.links) :=
    old.of_core rfl (fun _ => id) (fun _ => id) high rfl nofun ⟨old.marks.idle, old.marks.marks⟩ old.members (.inl trivial)
  exact cleared.settle

theorem State.Safe.withCursor (c : Cursor) : { s with cursor := c }.SafeIn (.done s.links) :=
  (h.atDone high).of_quiet rfl (.inr ⟨h.attention.flags, h.attention.attn, h.attention.held⟩)

theorem State.Safe.setCursor (e : CpEntry) : (doSetCursor e s).1.SafeIn (.done s.links) := by
  unfold doSetCursor
  split
  · exact h.atDone high
  · dsimp only
    split_ifs
    · exact h.atDone high
    · exact h.withCursor high _

theorem State.Safe.readNext (e : CpEntry) : (doReadNext e s).1.SafeIn (.done s.links) := by
  unfold doReadNext
  split
  · exact h.atDone high
  · exact h.withCursor high _

theorem State.Safe.readTier (e : CpEntry) : (doReadTier e s).1.SafeIn (.done s.links) := by
  unfold doReadTier
  split
  · exact h.atDone high
  · split <;> exact h.atDone high

theorem State.Safe.readGlobal (e : CpEntry) : (doReadGlobal e s).1.SafeIn (.done s.links) := by
  unfold doReadGlobal
  split <;> exact h.atDone high

/-! ### Settings in CONFIG (R6, R21, R24, R36, R37) -/

/-- A tier's record written in CONFIG, with the flags following; no claim is touched. -/
theorem State.Safe.setTier_config (config : s.mode = .config) {t : TierNo} {r : Tier} (legs : r.legs = (s.tier t).legs)
    (running : r.leaseRunning = (s.tier t).leaseRunning) (lease : r.lease = (s.tier t).lease) (range : r.InRange)
    (cfg : r.cfg.InRange) : (s.setTier t r).settle.SafeIn (.done s.links) := by
  have empty := (h.tableEmpty config).setTier legs running lease
  refine State.Safe.inDone (s := (s.setTier t r).settle) (State.TableEmpty.safe
    ⟨empty.records, empty.waitList, empty.legs, empty.mailboxes, empty.permit, empty.running, empty.lease, empty.pools⟩
    config (fun v => ?_) ⟨fun v => ?_, h.settings.globals, h.settings.ceilings, h.settings.capacities, h.settings.holds⟩
    h.links (State.heldExact_of_high high) h.capture (h.scan_idle config) (State.settle_follows high)) high
  · change ((s.setTier t r).tier v).InRange
    rw [State.setTier_tier]
    split_ifs
    · exact range
    · exact h.records.tiers v
  · change ((s.setTier t r).tier v).cfg.InRange
    rw [State.setTier_tier]
    split_ifs
    · exact cfg
    · exact h.settings.configs v

theorem State.Safe.writeTier (e : CpEntry) : (doWriteTier e s).1.SafeIn (.done s.links) := by
  unfold doWriteTier
  split
  · exact h.atDone high
  next config =>
  split
  · exact h.atDone high
  · exact h.atDone high
  · next t f _ _ =>
    dsimp only
    split_ifs
    · exact h.atDone high
    · have old := h.records.tiers t
      obtain ⟨lo, hi⟩ := saturate_bounds f.lower_le_upper (word32At e.data 4)
      exact h.setTier_config high (not_not.mp config) rfl rfl rfl { old with } ((h.settings.configs t).write lo hi)

theorem State.Safe.placeAtFootprint (config : s.mode = .config) (t : TierNo) {p : Pose} (pose : p.InRange) :
    (s.placeAtFootprint t p).settle.SafeIn (.done s.links) := by
  have old := h.records.tiers t
  refine h.setTier_config high config rfl rfl rfl { old with rest := pose, tracked := pose, standing := ?_ }
    (h.settings.configs t)
  rintro _ ⟨⟩
  exact footprint_inRange (h.settings.configs t) h.settings.globals pose

theorem State.Safe.setRest (e : CpEntry) : (doSetRest e s).1.SafeIn (.done s.links) := by
  unfold doSetRest
  split
  · exact h.atDone high
  next config =>
  split
  · exact h.atDone high
  · exact h.placeAtFootprint high (not_not.mp config) _ ⟨Nat.min_le_right _ _, Nat.min_le_right _ _⟩

theorem State.Safe.adopt (e : CpEntry) : (doAdopt e s).1.SafeIn (.done s.links) := by
  unfold doAdopt
  split
  · exact h.atDone high
  next config =>
  split
  · exact h.atDone high
  · next t _ =>
    split_ifs
    · exact h.atDone high
    · exact h.placeAtFootprint high (not_not.mp config) t (h.records.tiers t).tracked

/-- The global parameters and the ceilings written in CONFIG. -/
theorem State.Safe.withMotionSettings (config : s.mode = .config) {g : Globals} {v : Vector Nat 256}
    (settings : { s with globals := g, ceilings := v }.SettingsInRange) :
    { s with globals := g, ceilings := v }.SafeIn (.done s.links) := by
  have old := h.atDone high
  exact old.of_claims rfl (fun _ => id) (fun _ => id) high rfl ⟨old.mailboxes.bound, old.mailboxes.vacant⟩
    old.active.grantedOnlyInRun old.configEmpty old.placed.tiers old.active.holds
    (fun i c g hc => ((h.tableEmpty config).no_claim hc).elim) old.active.space settings old.capture
    ⟨old.marks.idle, old.marks.marks⟩ old.members (.inr ⟨h.attention.flags, h.attention.attn, h.attention.held⟩)

theorem State.Safe.writeGlobal (e : CpEntry) : (doWriteGlobal e s).1.SafeIn (.done s.links) := by
  have settings := h.settings
  unfold doWriteGlobal
  split
  · exact h.atDone high
  next config =>
  split
  · exact h.atDone high
  · next p _ =>
    obtain ⟨lo, hi⟩ := saturate_bounds (p.lower_le_upper s.globals) (word32At e.data 3)
    exact h.withMotionSettings high (not_not.mp config) { settings with globals := settings.globals.write lo hi }

theorem State.Safe.writeCeiling (e : CpEntry) : (doWriteCeiling e s).1.SafeIn (.done s.links) := by
  have settings := doWriteCeiling_inRange h.settings e
  unfold doWriteCeiling at settings ⊢
  dsimp only at settings ⊢
  split_ifs at settings ⊢ with other count past
  · exact h.atDone high
  · exact h.atDone high
  · exact h.atDone high
  all_goals exact h.withMotionSettings high (not_not.mp other) settings

/-! ### Pools, holds, CANCEL_CLAIM (R51, R87 to R96) -/

theorem State.Safe.setPool (e : CpEntry) : (doSetPool e s).1.SafeIn (.done s.links) := by
  unfold doSetPool
  split
  · exact h.atDone high
  · next p _ =>
    have busy : s.SafeIn (.busy s.links) := h.opened high rfl
    have value := Nat.min_le_right (word32At e.data 3) 4095
    dsimp only [State.setCapacity]
    split_ifs
    · exact (busy.setPool_capacity p value trivial).rescan.settle
    · exact ((h.atNoisy high).setPool_capacity p value trivial).settle

theorem State.Safe.placeHold (k : HoldNo) {a : Arc} (range : a.start ≤ 65535 ∧ 1 ≤ a.length ∧ a.length ≤ 65535) :
    (s.placeHold k a).SafeIn (.done s.links) := by
  have stopped : (s.withStopped fun _ b => a.overlaps b).SafeIn (.done s.links) :=
    State.stopWhere_eq s _ ▸ (h.atDone high).stopWhere _
  have commute : (s.setHold k (some a)).withStopped (fun _ b => a.overlaps b) =
      (s.withStopped fun _ b => a.overlaps b).setHold k (some a) := by
    unfold State.withStopped
    rfl
  rw [State.placeHold, State.stopWhere_eq, commute]
  refine stopped.setHold (by rintro _ ⟨⟩; exact range) ?_
  rintro i c g _ hc granted ⟨⟩
  rw [Arc.overlaps_comm]
  exact (State.withStopped_granted hc granted).2

theorem State.Safe.placeHoldCommand (e : CpEntry) : (doPlaceHold e s).1.SafeIn (.done s.links) := by
  unfold doPlaceHold
  split
  · exact h.atDone high
  · next k _ =>
    dsimp only
    refine h.placeHold high k ?_
    dsimp only
    omega

theorem State.Safe.liftHold (e : CpEntry) : (doLiftHold e s).1.SafeIn (.done s.links) := by
  unfold doLiftHold
  split
  · exact h.atDone high
  · next k _ =>
    split_ifs
    · exact h.atDone high
    · have lifted : (s.setHold k none).SafeIn (.scanning s.links) :=
        (h.atScanning high).setHold nofun fun _ _ _ _ _ _ => nofun
      exact lifted.rescan

theorem State.Safe.revoke {b : Handle} {u : State} {st : ClaimState} (found : s.revoke b = some (u, st)) :
    u.SafeIn (.done s.links) := by
  unfold State.revoke at found
  split at found
  · cases found
  · split at found <;> cases found
    · exact ((h.atScanning high).retireWaiting _ _ trivial).rescan
    · exact (h.atDone high).stopRecord _
    · exact h.atDone high
    · exact h.atDone high

theorem State.Safe.cancelClaim (e : CpEntry) : (doCancelClaim e s).1.SafeIn (.done s.links) := by
  unfold doCancelClaim
  split
  · exact h.atDone high
  · exact h.atDone high
  · split
    · exact h.atDone high
    · next found => exact h.revoke high found

end Commands

end Sys2Proof.Machine
end

section
/-! SUPPORT. Mode commands, SOFT_RESET and CLEAR_TIER keep what holds between events (chapters 7 and 8). -/

namespace Sys2Proof.Machine

/-! ### RUN-entry validation (R145) -/

theorem mem_tierPairs {a b : TierNo} : (a, b) ∈ tierPairs ↔ a < b := by
  simp [tierPairs]

/-- What a validated state has: every enabled tier is placed, and no two of their standing arcs overlap (R145). -/
theorem State.validate_none {s : State} (passes : s.validate = none) :
    (∀ t, (s.tier t).cfg.enabled = true → (s.tier t).placed = true) ∧
      ∀ t u, t ≠ u → s.standingOverlap t u = false := by
  unfold State.validate at passes
  split at passes
  · cases passes
  next unplaced =>
  split at passes
  · cases passes
  next overlap =>
  have ordered (t u : TierNo) (lt : t < u) : s.standingOverlap t u = false := by
    simpa using List.find?_eq_none.mp overlap (t, u) (mem_tierPairs.mpr lt)
  have symmetric (t u : TierNo) : s.standingOverlap t u = s.standingOverlap u t := by
    unfold State.standingOverlap
    rw [Bool.and_comm (s.tier t).cfg.enabled]
    cases (s.tier t).standing <;> cases (s.tier u).standing <;> simp [Arc.overlaps_comm]
  refine ⟨fun t enabled => ?_, fun t u ne => ?_⟩
  · simpa [enabled] using List.find?_eq_none.mp unplaced t (List.mem_finRange t)
  · rcases lt_or_gt_of_ne ne with lt | gt
    · exact ordered t u lt
    · rw [symmetric]
      exact ordered u t gt

theorem Tier.InRange.softReset {r : Tier} (hr : r.InRange) (active : Bool) : (r.softReset active).InRange where
  rest := hr.rest
  tracked := hr.tracked
  standing a ha := by
    dsimp only [Tier.softReset] at ha
    split_ifs at ha
    exact hr.standing a ha
  lastSeq := hr.lastSeq
  lease := Nat.zero_le _

section Commands
variable {s : State} (h : s.Safe) (high : s.resetHeld = false)
include h high

omit high in
/-- In CONFIG a space record is a standing arc (R34). -/
theorem State.Safe.spaceRecord_config (config : s.mode = .config) {t : TierNo} {a : Arc} (space : s.spaceRecord t = some a) :
    (s.tier t).cfg.enabled = true ∧ (s.tier t).standing = some a := by
  have table : s.TableExact := ⟨h.handles, h.waitList, h.legQueues⟩
  have alone : s.activeArc t = none := by
    refine Option.eq_none_iff_forall_ne_some.mpr fun b hb => ?_
    obtain ⟨_, _, _, hc, -⟩ := table.activeArc_iff.mp hb
    exact (h.tableEmpty config).no_claim hc
  rw [State.spaceRecord_eq, alone, Option.none_or] at space
  split_ifs at space with on
  exact ⟨on.1, space⟩

/-! ### SET_MODE, HALT, RESUME (R144 to R149) -/

theorem State.Safe.enterRun (ready : s.mode = .config → s.validate = none) : s.enterRun.SafeIn (.done s.links) := by
  have busy : s.SafeIn (.busy s.links) := h.opened high rfl
  have run : { s with mode := .run }.SafeIn (.busy s.links) := by
    refine busy.withMode trivial (.inl rfl) nofun fun config _ => ?_
    obtain ⟨placed, apart⟩ := State.validate_none (ready config)
    refine ⟨placed, fun t u a b ne ha hb => ?_⟩
    obtain ⟨enabled, standing⟩ := h.spaceRecord_config config ha
    obtain ⟨enabled', standing'⟩ := h.spaceRecord_config config hb
    simpa [State.standingOverlap, enabled, enabled', standing, standing'] using apart t u ne
  exact run.rescan.settle

theorem State.Safe.enterConfig (idle : s.anyActive = false) : s.enterConfig.SafeIn (.done s.links) := by
  have busy : s.SafeIn (.busy s.links) := h.opened high rfl
  have waiting {i : RecNo} {c : Claim} (hc : s.Holds i c) : c.phase = .waiting := by
    by_contra active
    have found : s.anyActive = true :=
      List.any_eq_true.mpr ⟨i, List.mem_finRange i, by
        rw [show s.record i = some c from hc]
        exact Claim.isActive_iff.mpr active⟩
    rw [idle] at found
    cases found
  have gone {i : RecNo} {c : Claim} (hc : (s.withRetired (fun _ => true) .mode).Holds i c) : False := by
    obtain ⟨held, active⟩ := State.withRetired_waiting hc
    exact active rfl (waiting held)
  have retired : (s.withRetired (fun _ => true) .mode).SafeIn (.busy s.links) :=
    State.retireWaitingWhere_eq s _ _ ▸ busy.retireWaitingWhere _ _ trivial
  have commute : { s with mode := .config }.withRetired (fun _ => true) .mode =
      { s.withRetired (fun _ => true) .mode with mode := .config } := by
    unfold State.withRetired
    rfl
  have config : ({ s with mode := .config }.retireWaitingWhere (fun _ => true) .mode).SafeIn (.busy s.links) := by
    rw [State.retireWaitingWhere_eq, commute]
    exact retired.withMode trivial (.inr fun i c g hc => (gone hc).elim)
      (fun _ i => Option.eq_none_iff_forall_ne_some.mpr fun c hc => gone hc) fun _ other => absurd rfl other
  exact config.rescan.settle

theorem State.Safe.setModeRun : s.setModeRun.1.SafeIn (.done s.links) := by
  unfold State.setModeRun
  split
  · exact h.atDone high
  · exact h.atDone high
  · split_ifs
    · exact h.atDone high
    · split
      · exact h.atDone high
      · next passes => exact h.enterRun high fun _ => passes

theorem State.Safe.setModeConfig : s.setModeConfig.1.SafeIn (.done s.links) := by
  have leave : (if s.anyActive then (s, Answer.refuse .busy) else (s.enterConfig, s.enterConfig.modeAnswer)).1.SafeIn
      (.done s.links) := by
    split_ifs with active
    · exact h.atDone high
    · exact h.enterConfig high (by simpa using active)
  unfold State.setModeConfig
  split
  · exact h.atDone high
  · exact leave
  · exact leave

theorem State.Safe.setMode (e : CpEntry) : (doSetMode e s).1.SafeIn (.done s.links) := by
  unfold doSetMode
  split_ifs
  · exact h.setModeRun high
  · exact h.setModeConfig high
  · exact h.atDone high

theorem State.Safe.halt (e : CpEntry) : (doHalt e s).1.SafeIn (.done s.links) := by
  unfold doHalt
  split
  · exact h.atDone high
  · exact h.atDone high
  · next running => exact ((h.atNoisy high).enterHalt trivial running).settle

theorem State.Safe.resume (e : CpEntry) : (doResume e s).1.SafeIn (.done s.links) := by
  unfold doResume
  split
  · exact h.atDone high
  · exact h.atDone high
  · next halted =>
    split_ifs
    · exact h.atDone high
    · exact h.enterRun high fun config => absurd (halted.symm.trans config) nofun

/-! ### SOFT_RESET (R151) -/

omit h high in
theorem State.softReset_tier (t : TierNo) :
    s.softReset.tier t = (s.tier t).softReset (s.activeClaim t).isSome := by
  simp [State.softReset, State.settle, State.tier]

omit high in
theorem State.Safe.softReset_empty : s.softReset.TableEmpty where
  records i := by simp [State.softReset, State.settle, State.record]
  waitList := rfl
  legs t := by rw [State.softReset_tier]; rfl
  mailboxes b := by
    have shown : s.softReset.mailbox b =
        if (s.boundTo b).isSome then ⟨.free, .reset, true⟩ else s.mailbox b := by
      simp only [State.softReset, State.settle, State.mailbox, State.resetMailboxes, Fin.getElem_fin,
        Vector.getElem_ofFn, Fin.eta, handleOfIndex_handleIndex]
    rw [shown]
    split_ifs with bound
    · rfl
    · exact h.mailboxes.vacant b (State.boundTo_eq_none.mp (by simpa using bound))
  permit t := by simp [State.softReset, State.settle, State.permitLine]
  running t := by rw [State.softReset_tier]; rfl
  lease t := by rw [State.softReset_tier]; rfl
  pools := ⟨rfl, rfl⟩

theorem State.Safe.softReset : s.softReset.SafeIn (.done s.links) := by
  refine State.Safe.inDone (s := s.softReset) (h.softReset_empty.safe rfl (fun t => ?_)
    ⟨fun t => ?_, h.settings.globals, h.settings.ceilings, h.settings.capacities, h.settings.holds⟩ h.links
    (State.heldExact_of_high high) nofun rfl (State.settle_follows high)) high
  · rw [State.softReset_tier]
    exact (h.records.tiers t).softReset _
  · rw [State.softReset_tier]
    exact h.settings.configs t

/-! ### CLEAR_TIER (R139 to R141) -/

omit high in
/-- A FROZEN head claim is its tier's active claim. -/
theorem State.Safe.frozenHead_some {t : TierNo} {i : RecNo} {c : Claim} {g : Grant}
    (found : s.frozenHead t = some (i, c, g)) : s.Holds i c ∧ c.handle.tier = t ∧ c.phase = .frozen g := by
  have table : s.TableExact := ⟨h.handles, h.waitList, h.legQueues⟩
  unfold State.frozenHead at found
  split at found
  · cases found
  · next head =>
    split at found <;> cases found
    next phase =>
    obtain ⟨hc, tier, -⟩ := table.headClaim_iff.mp head
    exact ⟨hc, tier, phase⟩

omit high in
/-- A FAULTED tier without a FROZEN head claim has no claim (R127). -/
theorem State.Safe.frozenHead_none {t : TierNo} (fault : (s.tier t).fault.isSome) (found : s.frozenHead t = none)
    {i : RecNo} {c : Claim} (hc : s.Holds i c) : c.handle.tier ≠ t := by
  rintro rfl
  have table : s.TableExact := ⟨h.handles, h.waitList, h.legQueues⟩
  obtain ⟨g, frozen⟩ := h.faults.frozen i c hc fault
  have head := table.headClaim_of_head hc (table.head_of_active hc (by simp [frozen]))
  simp [State.frozenHead, head, frozen] at found

/-- The arc a placement gives is in range and clear of the other tiers (R140). -/
theorem State.Safe.placement_some {t : TierNo} {n : Nat} {a : Arc} (found : s.placement t = some (n, a)) :
    a.InRange ∧ s.clearOfOthers t a = true := by
  have done := h.atDone high
  unfold State.placement at found
  dsimp only at found
  split_ifs at found with clear
  · cases found
    exact ⟨footprint_inRange (h.settings.configs t) h.settings.globals (h.records.tiers t).tracked, clear⟩
  · obtain ⟨⟨i, c, g⟩, head, same⟩ := Option.map_eq_some_iff.mp found
    cases same
    obtain ⟨hc, rfl, phase⟩ := h.frozenHead_some head
    have grant : c.grant? = some g := by simp [Claim.grant?, phase]
    exact ⟨((h.records.claims i c hc).grant g grant).arc, done.clear_of_active hc grant⟩

/-- Once the FROZEN claim has retired, or where there is none, the tier is placed and has no claim (R141). -/
theorem State.Safe.placeCleared {t : TierNo} {a : Arc} (fault : (s.tier t).fault.isSome) (range : a.InRange)
    (clear : s.clearOfOthers t a = true) :
    (s.placeCleared t a).SafeIn (.busy s.links) ∧
      ∀ i c, (s.placeCleared t a).Holds i c → c.handle.tier ≠ t := by
  have busy : s.SafeIn (.busy s.links) := h.opened high rfl
  have old := h.records.tiers t
  unfold State.placeCleared
  split
  · next i c g head =>
    obtain ⟨hc, rfl, phase⟩ := h.frozenHead_some head
    refine ⟨busy.retireActive hc (by simp [Claim.grant?, phase]) .faulted old.tracked range clear trivial, ?_⟩
    intro j d hd here
    rw [State.retireActive_eq] at hd
    have kept : (s.setRecord i none).record j = some d := hd
    rw [State.setRecord_record] at kept
    split_ifs at kept with same
    obtain ⟨g', frozen⟩ := h.faults.frozen j d kept (here ▸ fault)
    have waiting := busy.table.waiting_of_head hc (busy.table.head_of_active hc (by simp [phase])) kept here (Ne.symm same)
    rw [frozen] at waiting
    cases waiting
  · next head =>
    have none (i : RecNo) (c : Claim) (hc : s.Holds i c) := h.frozenHead_none fault head hc
    refine ⟨?_, none⟩
    refine busy.setTier rfl rfl { old with rest := old.tracked, standing := by rintro _ ⟨⟩; exact range } (fun _ => rfl)
      (.inr ⟨none, by rintro - _ ⟨⟩; exact clear⟩) rfl (busy.countdowns.stopped t) (busy.countdowns.running t)
      (fun i c hc here => absurd here (none i c hc)) (fun i c g hc here => absurd here (none i c hc)) (.inl trivial)

theorem State.Safe.clearTier {t : TierNo} {a : Arc} (fault : (s.tier t).fault.isSome) (range : a.InRange)
    (clear : s.clearOfOthers t a = true) : (s.clearTier t a).SafeIn (.done s.links) := by
  obtain ⟨placed, none⟩ := h.placeCleared high fault range clear
  have old := placed.records.tiers t
  have cleared : ((s.placeCleared t a).clearFaultKind t).SafeIn (.busy s.links) :=
    placed.setTier rfl rfl { old with } id (.inl rfl) rfl (placed.countdowns.stopped t) (placed.countdowns.running t)
      (fun i c hc here => absurd here (none i c hc)) (fun i c g hc here => absurd here (none i c hc)) (.inl trivial)
  exact cleared.rescan.settle

theorem State.Safe.clearTierCommand (e : CpEntry) : (doClearTier e s).1.SafeIn (.done s.links) := by
  unfold doClearTier
  split
  · exact h.atDone high
  · split
    · exact h.atDone high
    · next t _ =>
      split
      · exact h.atDone high
      · next state =>
        split
        · exact h.atDone high
        · next found =>
          obtain ⟨range, clear⟩ := h.placement_some high found
          have shows := State.tierState_eq_faulted.mp (not_not.mp state)
          exact h.clearTier high (Bool.and_eq_true_iff.mp shows).2 range clear

end Commands

end Sys2Proof.Machine
end

section
/-! SUPPORT. Every step keeps `State.Safe`. -/

namespace Sys2Proof.Machine

section Steps
variable {s : State} (h : s.Safe)
include h

/-- The queue is no part of the part's state (R143). -/
theorem State.Safe.withPending (rest : List Instr) : { s with pending := rest }.Safe := by
  rcases Bool.eq_false_or_eq_true s.resetHeld with low | high
  · have held : { s with pending := rest }.powerOnReset .resetnLow s.stopnLow = { s with pending := rest } :=
      congrArg (fun u : State => { u with pending := rest }) (h.held low)
    exact held ▸ State.powerOnReset_safe _ _ _
  · exact State.SafeIn.safe (l := s.links) ((h.atDone high).of_quiet rfl
      (.inr ⟨h.attention.flags, h.attention.attn, h.attention.held⟩)) h.links

/-- While RESETN is low nothing acts (R143). -/
theorem State.Safe.powered {f : State → State} (acts : s.Safe → s.resetHeld = false → (f s).Safe) :
    (s.powered f).Safe := by
  rcases Bool.eq_false_or_eq_true s.resetHeld with low | high
  · rw [State.powered_of_low low]
    exact h
  · rw [State.powered_of_high high]
    exact acts h high

/-- A console command, at whatever moment its event falls (R166, R168). -/
theorem State.Safe.command (code : Nat) {run : CpEntry → State → State × Answer}
    (kept : ∀ {u : State}, u.Safe → u.resetHeld = false → ∀ e, (run e u).1.SafeIn (.done u.links)) :
    (s.powered fun s => s.execute code run).Safe :=
  h.powered fun safe high => safe.executeIf high _ fun e _ hu high => kept hu high e

theorem safe_of_next {u : State} (e : (Host.Outcome.next s : Host.Outcome State Fault Refusal) = .next u) : u.Safe :=
  Host.Outcome.next.inj e ▸ h

end Steps

/-- Every event keeps `State.Safe`. -/
theorem exec_keeps_safe {i : Instr} {s u : State} (h : s.Safe) (e : exec i s = .next u) : u.Safe := by
  cases i with
  | powerOnReset cause low => exact safe_of_next (s.powerOnReset_safe cause low) e
  | resetnRisingEdge straps low => exact safe_of_next (s.resetnRise_safe straps low) e
  | stopnAssertion => exact safe_of_next (h.powered State.Safe.stopnAssert) e
  | stopnRelease => exact safe_of_next (h.powered State.Safe.stopnRise) e
  | tick order => exact safe_of_next (h.powered fun h high => h.tickAll high order) e
  | leaseExpiry t => exact safe_of_next (h.powered fun h high => h.leaseExpiry high t) e
  | mpFrameArrival f => exact safe_of_next (h.powered fun h high => h.mpArrival high f) e
  | mpReceiveError => exact safe_of_next (h.powered State.Safe.mpReceiveError) e
  | busOffRecovery => exact safe_of_next (h.powered State.Safe.mpRecovery) e
  | disabledEntryDiscard => exact safe_of_next (h.powered State.Safe.discardDisabled) e
  | claim => exact safe_of_next (h.powered State.Safe.takeClaim) e
  | cancel => exact safe_of_next (h.powered State.Safe.takeCancel) e
  | report => exact safe_of_next (h.powered State.Safe.takeReport) e
  | release => exact safe_of_next (h.powered State.Safe.takeRelease) e
  | visit => exact safe_of_next (h.powered State.Safe.visit) e
  | noticeStart => exact safe_of_next (h.powered State.Safe.noticeStart) e
  | noticeCompletion => exact safe_of_next (h.powered State.Safe.noticeComplete) e
  | noticeFailure why => exact safe_of_next (h.powered fun h high => h.noticeFail high why) e
  | cpCommandArrival f => exact safe_of_next (h.powered fun h high => h.cpArrival high f) e
  | cpReceiveError => exact safe_of_next (h.powered State.Safe.cpReceiveError) e
  | cpBusOffRecovery => exact safe_of_next (h.powered State.Safe.cpRecovery) e
  | replyStart => exact safe_of_next (h.powered State.Safe.replyStart) e
  | replyCompletion => exact safe_of_next (h.powered State.Safe.replyComplete) e
  | replyFailure why => exact safe_of_next (h.powered fun h high => h.replyFail high why) e
  | unknownCommand =>
    exact safe_of_next (h.powered fun h high => h.executeIf high _ fun _ _ hu high => hu.atDone high) e
  | readStatus => exact safe_of_next (h.command 0x01 (run := doReadStatus) fun hu high _ => hu.atDone high) e
  | setMask => exact safe_of_next (h.command 0x02 State.Safe.setMask) e
  | readFault => exact safe_of_next (h.command 0x03 (run := doReadFault) fun hu high _ => hu.atDone high) e
  | clearFault => exact safe_of_next (h.command 0x04 State.Safe.clearFault) e
  | setMode => exact safe_of_next (h.command 0x05 State.Safe.setMode) e
  | halt => exact safe_of_next (h.command 0x06 State.Safe.halt) e
  | resume => exact safe_of_next (h.command 0x07 State.Safe.resume) e
  | softReset => exact safe_of_next (h.command 0x08 (run := doSoftReset) fun hu high _ => hu.softReset high) e
  | writeTier => exact safe_of_next (h.command 0x10 State.Safe.writeTier) e
  | readTier => exact safe_of_next (h.command 0x11 State.Safe.readTier) e
  | setRest => exact safe_of_next (h.command 0x12 State.Safe.setRest) e
  | adopt => exact safe_of_next (h.command 0x13 State.Safe.adopt) e
  | writeGlobal => exact safe_of_next (h.command 0x14 State.Safe.writeGlobal) e
  | readGlobal => exact safe_of_next (h.command 0x15 State.Safe.readGlobal) e
  | writeCeiling => exact safe_of_next (h.command 0x16 State.Safe.writeCeiling) e
  | setPool => exact safe_of_next (h.command 0x20 State.Safe.setPool) e
  | placeHold => exact safe_of_next (h.command 0x21 State.Safe.placeHoldCommand) e
  | liftHold => exact safe_of_next (h.command 0x22 State.Safe.liftHold) e
  | cancelClaim => exact safe_of_next (h.command 0x23 State.Safe.cancelClaim) e
  | clearTier => exact safe_of_next (h.command 0x24 State.Safe.clearTierCommand) e
  | setCursor => exact safe_of_next (h.command 0x30 State.Safe.setCursor) e
  | readNext => exact safe_of_next (h.command 0x31 State.Safe.readNext) e

/-- Settles O55: what holds at every moment of an event (`State.SafeIn`) is kept by each operation that events share, and at
an event's end nothing of it is left open. -/
theorem stepKeepsSafe : Obligations.StepKeepsSafe := by
  intro s u h e
  unfold step at e
  split at e
  · exact safe_of_next h e
  · next c rest _ => exact exec_keeps_safe (h.withPending rest) e

end Sys2Proof.Machine
end

section
/-! SUPPORT. CLAIM, CANCEL and CANCEL_CLAIM, row by row (chapter 3). -/

namespace Sys2Proof.Machine

/-! ### What a handle, the free records and the wait list read as -/

section Reading
variable {s : State}

theorem State.boundTo_isSome {h : Handle} {i : RecNo} {c : Claim} (hc : s.Holds i c) (handle : c.handle = h) :
    (s.boundTo h).isSome = true :=
  Option.isSome_iff_ne_none.mpr fun vacant => State.boundTo_eq_none.mp vacant i c hc handle

theorem State.claimAt_of_vacant {h : Handle} (vacant : ∀ i c, s.Holds i c → c.handle ≠ h) : s.claimAt h = none := by
  rw [State.claimAt, State.boundTo_eq_none.mpr vacant]

theorem State.lowestFree_eq_none (occupied : ∀ i, s.record i ≠ none) : s.lowestFree = none :=
  List.find?_eq_none.mpr fun i _ => by simpa using occupied i

theorem State.lowestFree_eq_some {i : RecNo} (free : s.record i = none) (lowest : ∀ j, j < i → s.record j ≠ none) :
    s.lowestFree = some i := by
  refine List.find?_eq_some_iff_getElem.mpr ⟨by simp [free], i.val, by simp, by simp, fun j hj => ?_⟩
  have occupied := lowest ⟨j, by omega⟩ hj
  simpa [Option.isSome_iff_ne_none] using occupied

/-- A new record goes between the claims of equal or more urgent priority and the less urgent ones (R60). -/
theorem State.waitInsert_between {i : RecNo} {p : Nat} {ahead behind : List RecNo} (split : s.waitList = ahead ++ behind)
    (urgent : ∀ j ∈ ahead, ∃ c, s.Holds j c ∧ c.priority ≤ p)
    (less : ∀ j ∈ behind, ∃ c, s.Holds j c ∧ p < c.priority) : s.waitInsert i p = ahead ++ i :: behind := by
  have passed : ∀ j ∈ ahead, s.ahead p j = true := fun j hj => by
    obtain ⟨c, hc, le⟩ := urgent j hj
    exact (State.ahead_iff hc).mpr le
  have stays : ∀ j ∈ behind, ¬s.ahead p j = true := fun j hj => by
    obtain ⟨c, hc, lt⟩ := less j hj
    rw [State.ahead_iff hc]
    exact Nat.not_le_of_lt lt
  rw [State.waitInsert_eq, split, List.takeWhile_append_of_pos passed, List.dropWhile_append_of_pos passed]
  cases behind with
  | nil => simp
  | cons j l =>
    have first := stays j List.mem_cons_self
    rw [List.takeWhile_cons_of_neg first, List.dropWhile_cons_of_neg first, List.append_nil]

end Reading

/-! ### The fields of a CLAIM (R44, check 3) -/

theorem dirOfCode_eq_none : ∀ {n : Nat}, dirOfCode n = none ↔ 1 < n
  | 0 => by simp [dirOfCode]
  | 1 => by simp [dirOfCode]
  | _ + 2 => by simp [dirOfCode]

/-- A CLAIM names no motion where its kind, its direction or its target rake fails check 3. -/
theorem claimMotion_eq_none {d : List Byte} :
    claimMotion d = none ↔ byteAt d 0 ∉ [1, 2, 3] ∨ (byteAt d 0 ∈ [1, 3] ∧ 1 < byteAt d 1) ∨
      (byteAt d 0 ∈ [2, 3] ∧ 450 < word16At d 4) := by
  unfold claimMotion
  split
  · next kind => simp [kind, dirOfCode_eq_none]
  · next kind => simp [kind]
  · next kind =>
    by_cases rake : word16At d 4 ≤ 450
    · simp [kind, dirOfCode_eq_none, rake]
    · simp [kind, rake, Nat.lt_of_not_le rake]
  · next notSlew notRake notBoth =>
    have unknown : byteAt d 0 ∉ [1, 2, 3] := by simpa using ⟨notSlew, notRake, notBoth⟩
    simp only [unknown, not_false_eq_true, true_or]

/-! ### CLAIM (R43 to R46) -/

section Claim
variable {s : State} {h : Handle} {d : List Byte}

theorem State.arriveClaim_occupied {i : RecNo} {c : Claim} (hc : s.Holds i c) (handle : c.handle = h) :
    s.arriveClaim h d = (s.raise .protocol (some h.tier) (some h.slot) none).settle := by
  rw [State.arriveClaim, if_pos (State.boundTo_isSome hc handle)]

section Vacant
variable (vacant : ∀ i c, s.Holds i c → c.handle ≠ h)
include vacant

theorem State.not_boundTo_isSome : ¬(s.boundTo h).isSome = true := by
  simp [State.boundTo_eq_none.mpr vacant]

/-- Check 1 of R44. -/
theorem State.arriveClaim_config (mode : s.mode = .config) : s.arriveClaim h d = s.refuseClaim h .refusedMode := by
  rw [State.arriveClaim, if_neg (State.not_boundTo_isSome vacant), if_pos mode]

variable (mode : s.mode ≠ .config)
include mode

/-- Check 2 of R44. -/
theorem State.arriveClaim_tier (state : s.tierState h.tier = .unplaced ∨ s.tierState h.tier = .faulted) :
    s.arriveClaim h d = s.refuseClaim h .refusedTier := by
  rw [State.arriveClaim, if_neg (State.not_boundTo_isSome vacant), if_neg mode, if_pos state]

variable (state : ¬(s.tierState h.tier = .unplaced ∨ s.tierState h.tier = .faulted))
include state

/-- Check 3 of R44 fails. -/
theorem State.arriveClaim_range (bad : claimMotion d = none ∨ 7 < byteAt d 6) :
    s.arriveClaim h d = s.refuseClaim h .refusedRange := by
  rw [State.arriveClaim, if_neg (State.not_boundTo_isSome vacant), if_neg mode, if_neg state]
  cases motion : claimMotion d with
  | none => rfl
  | some m => exact if_pos (bad.resolve_left (by simp [motion]))

/-- Check 3 of R44 passes. -/
theorem State.arriveClaim_readable {m : Motion} (motion : claimMotion d = some m) (priority : byteAt d 6 ≤ 7) :
    s.arriveClaim h d = s.checkClaim h m (byteAt d 6) := by
  rw [State.arriveClaim, if_neg (State.not_boundTo_isSome vacant), if_neg mode, if_neg state, motion]
  exact if_neg (Nat.not_lt.mpr priority)

end Vacant

section Geometry
variable {m : Motion} {p : Nat} {geo : Geometry}
  (geometry : geo = admissionGeometry (s.tier h.tier).cfg s.globals m (s.projectedPose h.tier))
include geometry

/-- Check 4 of R44. -/
theorem State.checkClaim_reach (far : 32767 < geo.dist) : s.checkClaim h m p = s.refuseClaim h .refusedRange := by
  subst geometry
  exact if_pos (decide_eq_true far)

variable (near : geo.dist ≤ 32767)
include near

/-- Check 5 of R44. -/
theorem State.checkClaim_ceiling (above : ceilingOver s.ceilings geo.arc < geo.hi) :
    s.checkClaim h m p = s.refuseClaim h .refusedCeiling := by
  subst geometry
  simp [State.checkClaim, outOfReach, ceilingCheck, Nat.not_lt.mpr near, above]

variable (under : geo.hi ≤ ceilingOver s.ceilings geo.arc)
include under

/-- Check 6 of R44. -/
theorem State.checkClaim_full (occupied : ∀ i, s.record i ≠ none) :
    s.checkClaim h m p = s.refuseClaim h .refusedFull := by
  subst geometry
  simp [State.checkClaim, outOfReach, ceilingCheck, Nat.not_lt.mpr near, under, State.lowestFree_eq_none occupied]

/-- A CLAIM that passes every check is accepted into the lowest FREE record (R45). -/
theorem State.checkClaim_accept {i : RecNo} (free : s.record i = none) (lowest : ∀ j, j < i → s.record j ≠ none) :
    s.checkClaim h m p = s.acceptClaim h m p i := by
  subst geometry
  simp [State.checkClaim, outOfReach, ceilingCheck, Nat.not_lt.mpr near, under, State.lowestFree_eq_some free lowest]

end Geometry

end Claim

/-- Settles O12: the checks of R43 and R44 one after another, each refusal a write of the mailbox. -/
theorem claimIgnoredOrRefused : Obligations.ClaimIgnoredOrRefused := by
  refine ⟨fun s h d rest i c due hc handle => ?_, fun s h d rest due vacant => ?_⟩
  · rw [exec_claim_due due, State.arriveClaim_occupied (s := { s with mpFifo := rest }) hc handle]
  intro refused badFields
  let taken : State := { s with mpFifo := rest }
  rw [exec_claim_due due]
  have unread : badFields ↔ claimMotion d = none ∨ 7 < byteAt d 6 := by
    rw [claimMotion_eq_none, or_assoc, or_assoc]
  refine ⟨fun config => ?_, fun mode state => ?_, fun mode placed sound => ⟨fun bad => ?_, fun good m motion => ?_⟩⟩
  · rw [State.arriveClaim_config (s := taken) vacant config]
    rfl
  · rw [State.arriveClaim_tier (s := taken) vacant mode state]
    rfl
  · rw [State.arriveClaim_range (s := taken) vacant mode (not_or.mpr ⟨placed, sound⟩) (unread.mp bad)]
    rfl
  · have priority : byteAt d 6 ≤ 7 := Nat.le_of_not_lt fun less => good (unread.mpr (.inr less))
    rw [State.arriveClaim_readable (s := taken) vacant mode (not_or.mpr ⟨placed, sound⟩) motion priority]
    refine ⟨fun far => ?_, fun near above => ?_, fun near under occupied => ?_⟩
    · rw [State.checkClaim_reach (s := taken) rfl far]
      rfl
    · rw [State.checkClaim_ceiling (s := taken) rfl near above]
      rfl
    · rw [State.checkClaim_full (s := taken) rfl near under occupied]
      rfl

/-! ### Acceptance (R45) and the projected pose (R33) -/

/-- A new WAITING claim in the table, each item it changes written out (R32, R45, R60). -/
theorem State.entered_eq {s : State} {i : RecNo} {c : Claim} {ahead behind : List RecNo}
    (split : s.waitList = ahead ++ behind) (urgent : ∀ j ∈ ahead, ∃ d, s.Holds j d ∧ d.priority ≤ c.priority)
    (less : ∀ j ∈ behind, ∃ d, s.Holds j d ∧ c.priority < d.priority) :
    s.entered i c =
      { s with
        records := s.records.set i (some c)
        waitList := ahead ++ i :: behind
        tiers := s.tiers.set c.handle.tier
          { s.tier c.handle.tier with legs := (s.tier c.handle.tier).legs ++ [c.handle.slot] }
        mailboxes := s.mailboxes.set (handleIndex c.handle) ⟨.waiting, .queued, true⟩ } := by
  rw [State.entered, State.waitInsert_between split urgent less]
  rfl

theorem State.projectedPose_of_empty {s : State} {t : TierNo} (empty : (s.tier t).legs = []) :
    s.projectedPose t = (s.tier t).rest := by
  rw [State.projectedPose, empty, List.getLast?_nil]

theorem State.projectedPose_of_tail {s : State} {t : TierNo} {k : SlotNo} {i : RecNo} {c : Claim}
    (tail : (s.tier t).legs.getLast? = some k) (found : s.claimAt ⟨t, k⟩ = some (i, c)) :
    s.projectedPose t = if c.state = .frozen then (s.tier t).rest else c.targetPose := by
  simp only [State.projectedPose, tail, found]

theorem Claim.state_eq_frozen {c : Claim} : c.state = .frozen ↔ ∃ g, c.phase = .frozen g := by
  rcases c with ⟨_, _, _, _, phase⟩
  cases phase <;> simp [Claim.state]

/-- Settles O13: the new record at its place in the wait list, and the projected pose by the tail of the leg queue. -/
theorem claimAcceptedBindsLowestFreeRecord : Obligations.ClaimAcceptedBindsLowestFreeRecord := by
  refine ⟨?_, fun s t => ⟨State.projectedPose_of_empty, fun k i c tail found => ⟨fun g frozen => ?_, fun moving => ?_⟩⟩⟩
  · intro s h d rest m i ahead behind due vacant mode placed sound motion priority geo near under free lowest p split
      urgent less
    rw [exec_claim_due due,
      State.arriveClaim_readable (s := { s with mpFifo := rest }) vacant mode (not_or.mpr ⟨placed, sound⟩) motion priority,
      State.checkClaim_accept (s := { s with mpFifo := rest }) rfl near under free lowest, State.acceptClaim_eq]
    have entered := State.entered_eq (s := { s with mpFifo := rest }) (i := i)
      (c := { handle := h, motion := m, priority := p, origin := s.projectedPose h.tier, phase := .waiting })
      split urgent less
    exact congrArg (fun u : State => Host.Outcome.next u.rescan) entered
  · rw [State.projectedPose_of_tail tail found, if_pos (Claim.state_eq_frozen.mpr ⟨g, frozen⟩)]
  · rw [State.projectedPose_of_tail tail found, if_neg]
    · rfl
    · rw [Claim.state_eq_frozen, not_exists]
      exact moving

/-! ### CANCEL and CANCEL_CLAIM (R50, R51) -/

/-- A stop of a GRANTED claim, each item it changes written out (R47). -/
theorem State.stopRecord_eq {s : State} {i : RecNo} {c : Claim} {g : Grant} (hc : s.record i = some c)
    (granted : c.phase = .granted g) :
    s.stopRecord i =
      { s with
        records := s.records.set i (some { c with phase := .stopping g })
        permit := s.permit.set c.handle.tier false
        mailboxes := s.mailboxes.set (handleIndex c.handle) ⟨.stopping, .granted, true⟩ } :=
  State.stopRecord_granted hc granted

section Cancel
variable {s : State} {h : Handle} {i : RecNo} {c : Claim} {g : Grant}

theorem State.cancelHandle_vacant (vacant : ∀ i c, s.Holds i c → c.handle ≠ h) :
    s.cancelHandle h = (s.raise .protocol (some h.tier) (some h.slot) none).settle := by
  rw [State.cancelHandle, State.claimAt_of_vacant vacant]

theorem State.revoke_vacant (vacant : ∀ i c, s.Holds i c → c.handle ≠ h) : s.revoke h = none := by
  rw [State.revoke, State.claimAt_of_vacant vacant]

variable (found : s.claimAt h = some (i, c))
include found

theorem State.cancelHandle_waiting (waiting : c.phase = .waiting) :
    s.cancelHandle h = (s.withFreed i c.handle .cancelled).rescan := by
  simp only [State.cancelHandle, found, waiting]
  rw [State.retireWaiting_waiting _ (State.claimAt_spec found).1 waiting]

theorem State.cancelHandle_granted (granted : c.phase = .granted g) : s.cancelHandle h = s.stopRecord i := by
  simp only [State.cancelHandle, found, granted]

theorem State.cancelHandle_stopped (stopped : c.phase = .stopping g ∨ c.phase = .frozen g) :
    s.cancelHandle h = s.repend h := by
  rcases stopped with phase | phase <;> simp only [State.cancelHandle, found, phase]

theorem State.revoke_waiting (waiting : c.phase = .waiting) :
    s.revoke h = some ((s.withFreed i c.handle .revoked).rescan, .free) := by
  simp only [State.revoke, found, waiting]
  rw [State.retireWaiting_waiting _ (State.claimAt_spec found).1 waiting]

theorem State.revoke_granted (granted : c.phase = .granted g) : s.revoke h = some (s.stopRecord i, .stopping) := by
  simp only [State.revoke, found, granted]

theorem State.revoke_stopping (stopping : c.phase = .stopping g) : s.revoke h = some (s, .stopping) := by
  simp only [State.revoke, found, stopping]

theorem State.revoke_frozen (frozen : c.phase = .frozen g) : s.revoke h = some (s, .frozen) := by
  simp only [State.revoke, found, frozen]

end Cancel

/-- Settles O14: the vacant handle, then the phases of the claim bound to it. -/
theorem cancelByClaimState : Obligations.CancelByClaimState := by
  intro s h rest due s'
  rw [exec_cancel_due due]
  refine ⟨fun vacant => ?_, fun i c found => ⟨fun waiting => ?_, fun g granted => ?_, fun g stopped => ?_⟩⟩
  · rw [State.cancelHandle_vacant (s := s') vacant]
  · rw [State.cancelHandle_waiting (s := s') found waiting]
  · rw [State.cancelHandle_granted (s := s') found granted,
      State.stopRecord_eq (s := s') (State.claimAt_spec found).1 granted]
  · rw [State.cancelHandle_stopped (s := s') found stopped]
    rfl

theorem slotOfNat_val (k : SlotNo) : slotOfNat k.val = some k :=
  dif_pos k.isLt

theorem slotOfNat_of_lt {n : Nat} (h : 3 < n) : slotOfNat n = none :=
  dif_neg (by omega)

section CancelClaim
variable {s : State} {e : CpEntry} {rest : List CpEntry} (due : s.CommandDue e rest 0x23)
include due

theorem exec_cancelClaim_range (bad : 23 < byteAt e.data 2 ∨ 3 < byteAt e.data 3) :
    exec .cancelClaim s = .next (s.refusal e rest .range) := by
  rw [exec_cancelClaim due, doCancelClaim, ← State.afterCommand_refuse]
  rcases bad with tier | slot
  · rw [tierOfNat_of_lt tier]
  · rw [slotOfNat_of_lt slot]
    cases tierOfNat (byteAt e.data 2) <;> rfl

variable {h : Handle} (tier : byteAt e.data 2 = h.tier.val) (slot : byteAt e.data 3 = h.slot.val)
include tier slot

theorem exec_cancelClaim_vacant (vacant : { s with cpFifo := rest }.revoke h = none) :
    exec .cancelClaim s = .next (s.refusal e rest .notActive) := by
  rw [exec_cancelClaim due, doCancelClaim, tier, slot, tierOfNat_val, slotOfNat_val, ← State.afterCommand_refuse]
  simp only [vacant]

/-- What the claim of a handle comes to is answered with its state after it (R51). -/
theorem exec_cancelClaim_bound {f : State → State} {st : ClaimState}
    (revoked : { s with cpFifo := rest }.revoke h = some (f { s with cpFifo := rest }, st)) :
    exec .cancelClaim s = .next (s.answer e rest f .ok (u8 h.tier.val ++ u8 h.slot.val ++ u8 st.code)) := by
  rw [exec_cancelClaim due, doCancelClaim, tier, slot, tierOfNat_val, slotOfNat_val, ← State.afterCommand_of]
  simp only [revoked]

end CancelClaim

/-- Settles O45: the arguments, the vacant handle, then the phases of the claim bound to it. -/
theorem cancelClaimByRow : Obligations.CancelClaimByRow := by
  intro s e rest due
  refine ⟨exec_cancelClaim_range due, fun h tier slot => ?_⟩
  intro reply
  refine ⟨fun vacant => exec_cancelClaim_vacant due tier slot (State.revoke_vacant vacant), fun i c found =>
    ⟨fun waiting => ?_, fun g granted => ?_, fun g stopping => ?_, fun g frozen => ?_⟩⟩
  · exact exec_cancelClaim_bound due tier slot (State.revoke_waiting found waiting)
  · have revoked := State.revoke_granted (s := { s with cpFifo := rest }) found granted
    rw [State.stopRecord_eq (s := { s with cpFifo := rest }) (State.claimAt_spec found).1 granted] at revoked
    exact exec_cancelClaim_bound due tier slot revoked
  · exact exec_cancelClaim_bound due tier slot (State.revoke_stopping found stopping)
  · exact exec_cancelClaim_bound due tier slot (State.revoke_frozen found frozen)

end Sys2Proof.Machine
end

section
/-! SUPPORT. Packed fields and the READ_NEXT entry of a claim record (R57, R172, 11.3.3). -/

namespace Sys2Proof.Machine

/-! ### Packed fields (11.3.3) -/

/-- The bits that packed fields take together. -/
def packedWidth : List (Nat × Nat) → Nat
  | [] => 0
  | (w, _) :: rest => w + packedWidth rest

theorem packedWidth_append (l m : List (Nat × Nat)) : packedWidth (l ++ m) = packedWidth l + packedWidth m := by
  induction l with
  | nil => exact (Nat.zero_add _).symm
  | cons field l ih => rw [List.cons_append, packedWidth, ih, packedWidth, Nat.add_assoc]

theorem packBits_cons (w v : Nat) (l : List (Nat × Nat)) : packBits ((w, v) :: l) = v % 2 ^ w + 2 ^ w * packBits l := rfl

theorem packBits_cons_mod (w v : Nat) (l : List (Nat × Nat)) : packBits ((w, v) :: l) % 2 ^ w = v % 2 ^ w := by
  rw [packBits_cons, Nat.add_mul_mod_self_left, Nat.mod_mod]

theorem packBits_cons_div (w v : Nat) (l : List (Nat × Nat)) : packBits ((w, v) :: l) / 2 ^ w = packBits l := by
  have fits : v % 2 ^ w < 2 ^ w := Nat.mod_lt _ (Nat.two_pow_pos w)
  rw [packBits_cons, Nat.add_mul_div_left _ _ (Nat.two_pow_pos w), Nat.div_eq_of_lt fits, Nat.zero_add]

/-- Above the bits of the first fields stand the others. -/
theorem packBits_append_div (l m : List (Nat × Nat)) : packBits (l ++ m) / 2 ^ packedWidth l = packBits m := by
  induction l with
  | nil => exact Nat.div_one _
  | cons field l ih =>
    obtain ⟨w, v⟩ := field
    rw [List.cons_append, packedWidth, pow_add, ← Nat.div_div_eq_div_mul, packBits_cons_div, ih]

/-- Above the bits of all fields there are only zeros. -/
theorem packBits_lt (l : List (Nat × Nat)) : packBits l < 2 ^ packedWidth l := by
  refine (Nat.div_eq_zero_iff_lt (Nat.two_pow_pos _)).mp ?_
  have rest := packBits_append_div l []
  rwa [List.append_nil] at rest

/-- A field that fits in its width is read at the place where the fields before it end. -/
theorem packBits_field {l : List (Nat × Nat)} (k : Nat) {lowest w v : Nat} (entry : l[k]? = some (w, v))
    (place : packedWidth (l.take k) = lowest) (fits : v < 2 ^ w) : packBits l / 2 ^ lowest % 2 ^ w = v := by
  obtain ⟨bound, entry⟩ := List.getElem?_eq_some_iff.mp entry
  have parts : l = l.take k ++ (w, v) :: l.drop (k + 1) := by
    rw [← entry, ← List.drop_eq_getElem_cons bound, List.take_append_drop]
  rw [parts, ← place, packBits_append_div, packBits_cons_mod, Nat.mod_eq_of_lt fits]

/-- The same for a field behind a first part. -/
theorem packBits_append_field (l : List (Nat × Nat)) {m : List (Nat × Nat)} (k : Nat) {lowest w v : Nat}
    (entry : m[k]? = some (w, v)) (place : packedWidth l + packedWidth (m.take k) = lowest) (fits : v < 2 ^ w) :
    packBits (l ++ m) / 2 ^ lowest % 2 ^ w = v := by
  rw [← place, pow_add, ← Nat.div_div_eq_div_mul, packBits_append_div]
  exact packBits_field k entry rfl fits

/-! ### Bytes of a number (R175) -/

/-- The number that bytes hold, least significant first. -/
def littleEndian (l : List Byte) : Nat :=
  l.foldr (fun b acc => b.toNat + 256 * acc) 0

theorem bytesOf_length (n v : Nat) : (bytesOf n v).length = n := by
  induction n generalizing v with
  | zero => rfl
  | succ n ih => rw [bytesOf, List.length_cons, ih]

theorem littleEndian_bytesOf {n v : Nat} (fits : v < 256 ^ n) : littleEndian (bytesOf n v) = v := by
  induction n generalizing v with
  | zero => exact (Nat.lt_one_iff.mp fits).symm
  | succ n ih =>
    have rest : v / 256 < 256 ^ n := Nat.div_lt_of_lt_mul (by rwa [← Nat.pow_succ'])
    calc littleEndian (bytesOf (n + 1) v) = v % 256 + 256 * littleEndian (bytesOf n (v / 256)) := rfl
      _ = v % 256 + 256 * (v / 256) := by rw [ih rest]
      _ = v := Nat.mod_add_div v 256

/-! ### The claim-record entry -/

/-- The fields of a bound record that do not come from its grant, in the order of 11.3.3. -/
def claimHead (i : RecNo) (c : Claim) : List (Nat × Nat) :=
  [(3, c.state.code), (6, i.val), (5, c.handle.tier.val), (2, c.handle.slot.val), (2, c.motion.kindCode),
    (1, c.motion.dirCode), (3, c.priority), (16, c.motion.targetPosition), (9, c.motion.targetRake),
    (16, c.origin.pos), (9, c.origin.rake)]

theorem claimEntryBits_some (i : RecNo) (c : Claim) :
    claimEntryBits i (some c) = packBits (claimHead i c ++ grantFields c.grant?) := rfl

theorem packedWidth_claimHead (i : RecNo) (c : Claim) : packedWidth (claimHead i c) = 72 := rfl

theorem packedWidth_grantFields (g : Option Grant) : packedWidth (grantFields g) = 52 := by
  cases g <;> rfl

theorem claimEntryBits_none (i : RecNo) : claimEntryBits i none = 8 * i.val := by
  have number : i.val % 64 = i.val := Nat.mod_eq_of_lt i.isLt
  simp [claimEntryBits, packBits, ClaimState.code, number]

theorem claimEntryBits_lt (i : RecNo) (c : Option Claim) : claimEntryBits i c < 2 ^ 124 := by
  cases c with
  | none =>
    rw [claimEntryBits_none]
    omega
  | some c =>
    have bound := packBits_lt (claimHead i c ++ grantFields c.grant?)
    rwa [packedWidth_append, packedWidth_claimHead, packedWidth_grantFields] at bound

theorem claimEntryBits_number (i : RecNo) (c : Option Claim) : claimEntryBits i c / 2 ^ 3 % 2 ^ 6 = i.val := by
  cases c with
  | none => exact packBits_field 1 rfl rfl i.isLt
  | some c => exact packBits_field 1 rfl rfl i.isLt

/-- Bits 4 to 7 of byte 1 and the bytes after it hold the whole entry. -/
theorem claimAnswer_value (i : RecNo) (c : Option Claim) :
    (claimAnswer i c).high + 16 * littleEndian (claimAnswer i c).results = claimEntryBits i c := by
  have bound := claimEntryBits_lt i c
  have fits : claimEntryBits i c / 16 < 256 ^ 18 := by omega
  have bytes : littleEndian (claimAnswer i c).results = claimEntryBits i c / 16 := littleEndian_bytesOf fits
  rw [bytes]
  exact Nat.mod_add_div _ 16

theorem ClaimState.code_lt (st : ClaimState) : st.code < 2 ^ 3 := by
  cases st <;> decide

theorem Motion.kindCode_lt (m : Motion) : m.kindCode < 2 ^ 2 := by
  cases m <;> simp [Motion.kindCode]

theorem Dir.code_lt (dir : Dir) : dir.code < 2 ^ 1 := by
  cases dir <;> decide

theorem Motion.dirCode_lt (m : Motion) : m.dirCode < 2 ^ 1 := by
  cases m with
  | slew dir _ => exact dir.code_lt
  | rake _ => exact Nat.two_pow_pos 1
  | both dir _ _ => exact dir.code_lt

theorem bit_lt (b : Bool) : bit b < 2 ^ 1 := by
  cases b <;> decide

theorem bit_decide_eq_one {p : Prop} [Decidable p] : bit (decide p) = 1 ↔ p := by
  simp [bit]

section Fields
variable {i : RecNo} {c : Claim}

/-- The codes and numbers of a record, at their places. -/
theorem claimEntryBits_codes :
    claimEntryBits i (some c) / 2 ^ 0 % 2 ^ 3 = c.state.code ∧
      claimEntryBits i (some c) / 2 ^ 9 % 2 ^ 5 = c.handle.tier.val ∧
      claimEntryBits i (some c) / 2 ^ 14 % 2 ^ 2 = c.handle.slot.val ∧
      claimEntryBits i (some c) / 2 ^ 16 % 2 ^ 2 = c.motion.kindCode :=
  ⟨packBits_field 0 rfl rfl c.state.code_lt, packBits_field 2 rfl rfl (by omega), packBits_field 3 rfl rfl (by omega),
    packBits_field 4 rfl rfl c.motion.kindCode_lt⟩

/-- Priority and declared origin of a record, at their places. -/
theorem claimEntryBits_declared (range : c.InRange) :
    claimEntryBits i (some c) / 2 ^ 19 % 2 ^ 3 = c.priority ∧
      claimEntryBits i (some c) / 2 ^ 47 % 2 ^ 16 = c.origin.pos ∧
      claimEntryBits i (some c) / 2 ^ 63 % 2 ^ 9 = c.origin.rake := by
  have priority := range.priority
  obtain ⟨pos, rake⟩ := range.origin
  exact ⟨packBits_field 6 rfl rfl (by omega), packBits_field 9 rfl rfl (by omega), packBits_field 10 rfl rfl (by omega)⟩

/-- Direction and targets of a record, at their places. -/
theorem claimEntryBits_motion (range : c.motion.InRange) :
    claimEntryBits i (some c) / 2 ^ 18 % 2 ^ 1 = c.motion.dirCode ∧
      claimEntryBits i (some c) / 2 ^ 22 % 2 ^ 16 = c.motion.targetPosition ∧
      claimEntryBits i (some c) / 2 ^ 38 % 2 ^ 9 = c.motion.targetRake := by
  obtain ⟨pos, rake⟩ := range
  exact ⟨packBits_field 5 rfl rfl c.motion.dirCode_lt, packBits_field 7 rfl rfl (by omega),
    packBits_field 8 rfl rfl (by omega)⟩

/-- Of a WAITING claim's grant there are only zeros. -/
theorem claimEntryBits_no_grant (waiting : c.grant? = none) : claimEntryBits i (some c) / 2 ^ 72 % 2 ^ 52 = 0 := by
  rw [claimEntryBits_some, ← packedWidth_claimHead i c, packBits_append_div, waiting]
  rfl

/-- A field of a grant stands behind the 72 bits of the other fields. -/
theorem claimEntryBits_grantField {g : Grant} (grant : c.grant? = some g) (k : Nat) {lowest w v : Nat}
    (entry : (grantFields (some g))[k]? = some (w, v))
    (place : 72 + packedWidth ((grantFields (some g)).take k) = lowest) (fits : v < 2 ^ w) :
    claimEntryBits i (some c) / 2 ^ lowest % 2 ^ w = v := by
  rw [claimEntryBits_some, grant]
  exact packBits_append_field (claimHead i c) k entry place fits

/-- The fields of a grant, at their places. -/
theorem claimEntryBits_grant {g : Grant} (grant : c.grant? = some g) (range : g.InRange) :
    claimEntryBits i (some c) / 2 ^ 72 % 2 ^ 16 = g.arc.start ∧
      claimEntryBits i (some c) / 2 ^ 88 % 2 ^ 16 = g.arc.length ∧
      claimEntryBits i (some c) / 2 ^ 104 % 2 ^ 9 = g.lo ∧
      claimEntryBits i (some c) / 2 ^ 113 % 2 ^ 9 = g.hi ∧
      (claimEntryBits i (some c) / 2 ^ 122 % 2 ^ 1 = 1 ↔ 0 < g.slewDraw) ∧
      (claimEntryBits i (some c) / 2 ^ 123 % 2 ^ 1 = 1 ↔ 0 < g.hydDraw) := by
  obtain ⟨start, -, length⟩ := range.arc
  obtain ⟨low, high⟩ := range.envelope
  have slew : claimEntryBits i (some c) / 2 ^ 122 % 2 ^ 1 = bit (decide (0 < g.slewDraw)) :=
    claimEntryBits_grantField grant 4 rfl rfl (bit_lt _)
  have hyd : claimEntryBits i (some c) / 2 ^ 123 % 2 ^ 1 = bit (decide (0 < g.hydDraw)) :=
    claimEntryBits_grantField grant 5 rfl rfl (bit_lt _)
  rw [slew, hyd, bit_decide_eq_one, bit_decide_eq_one]
  exact ⟨claimEntryBits_grantField grant 0 rfl rfl (by omega), claimEntryBits_grantField grant 1 rfl rfl (by omega),
    claimEntryBits_grantField grant 2 rfl rfl (by omega), claimEntryBits_grantField grant 3 rfl rfl (by omega),
    Iff.rfl, Iff.rfl⟩

end Fields

/-- READ_NEXT answers the entry under the cursor, and the cursor moves on by its step (R172). -/
theorem doReadNext_some {s : State} {e : CpEntry} {a : Answer} {step : Nat} (entry : s.entryAt s.cursor = some (a, step)) :
    doReadNext e s = ({ s with cursor := { s.cursor with index := s.cursor.index + step } }, a) := by
  rw [doReadNext, entry]

/-- READ_NEXT with the cursor on a claim record answers its entry and moves the cursor on (R172). -/
theorem exec_readNext_claim {s : State} {e : CpEntry} {rest : List CpEntry} {i : RecNo} (due : s.CommandDue e rest 0x31)
    (cursor : s.cursor = ⟨.claims, i.val⟩) :
    exec .readNext s = .next
      { s with
        cpFifo := rest
        replies := s.replies ++ [(claimAnswer i (s.record i)).reply e.tag]
        cursor := ⟨.claims, i.val + 1⟩ } := by
  have entry : { s with cpFifo := rest }.entryAt s.cursor = some (claimAnswer i (s.record i), 1) := by
    rw [cursor]
    exact dif_pos i.isLt
  rw [exec_readNext due, doReadNext_some (s := { s with cpFifo := rest }) entry, cursor]
  rfl

/-- Settles O49: the entry is the number its fields pack to, and each field is read where the ones before it end. -/
theorem claimRecordEntryIsPacked : Obligations.ClaimRecordEntryIsPacked := by
  intro s e rest i due cursor range
  have bytes : ((claimAnswer i (s.record i)).reply e.tag).results.length = 18 := bytesOf_length 18 _
  refine ⟨(claimAnswer i (s.record i)).reply e.tag, exec_readNext_claim due cursor, rfl, rfl,
    Nat.mod_lt _ (by decide), bytes, congrArg (· + 2) bytes, ?_⟩
  intro n field
  have value : n = claimEntryBits i (s.record i) := claimAnswer_value i (s.record i)
  clear_value n
  subst value
  refine ⟨claimEntryBits_number i _, claimEntryBits_lt i _, fun free => ?_, fun c bound => ?_⟩
  · rw [free, claimEntryBits_none]
  · have claim := range.claims i c bound
    simp only [field, bound]
    obtain ⟨state, tier, slot, kind⟩ := claimEntryBits_codes (i := i) (c := c)
    obtain ⟨priority, pos, rake⟩ := claimEntryBits_declared (i := i) claim
    have motion := claimEntryBits_motion (i := i) claim.motion
    refine ⟨state, tier, slot, kind, priority, ?_, pos, rake, claimEntryBits_no_grant,
      fun g grant => claimEntryBits_grant grant (claim.grant g grant)⟩
    cases m : c.motion <;> rw [m] at motion <;> exact motion

end Sys2Proof.Machine
end

section
/-! SUPPORT. What an event can do to claim records, wait list and mode, as a run of moves, and what every move keeps
(R60, R75). -/

namespace Sys2Proof.Machine

/-! ### Moves -/

/-- What R60 and R75 speak of: the claim records, the wait list, the mode. -/
structure ClaimTable where
  records : Vector (Option Claim) 64
  waitList : List RecNo
  mode : Mode

def State.claimTable (s : State) : ClaimTable :=
  ⟨s.records, s.waitList, s.mode⟩

/-- What one operation can do to the claim table. -/
inductive State.Move : State → State → Prop
  /-- The claim table stays. -/
  | quiet {s u : State} (table : u.claimTable = s.claimTable) : Move s u
  /-- A record leaves the wait list: it is FREE, or its claim is in another phase; it is GRANTED in RUN alone (R52, R75). -/
  | leaves {s : State} (i : RecNo) (o : Option Claim) (active : ∀ d, o = some d → d.phase ≠ .waiting)
      (run : ∀ d g, o = some d → d.phase = .granted g → s.mode = .run) :
      Move s { s.setRecord i o with waitList := s.waitList.filter fun j => j != i }
  /-- An active claim goes on: stopped, frozen, or trimmed; none is GRANTED that was not (R47 to R49). -/
  | advances {s : State} (i : RecNo) (c d : Claim) (was : s.Holds i c) (active : c.phase ≠ .waiting)
      (stays : d.phase ≠ .waiting) (granted : ∀ g, d.phase = .granted g → ∃ g', c.phase = .granted g') :
      Move s (s.setRecord i (some d))
  /-- A WAITING claim enters a FREE record (R45). -/
  | enters {s : State} (i : RecNo) (c : Claim) (free : s.record i = none) (waiting : c.phase = .waiting) :
      Move s (s.entered i c)
  /-- The mode is written; it is RUN, or no claim is GRANTED (R145 to R149). -/
  | turns {s : State} (m : Mode) (run : m = .run ∨ ∀ i c g, s.Holds i c → c.phase ≠ .granted g) :
      Move s { s with mode := m }
  /-- Every record becomes FREE (R143, R151). -/
  | empties {s u : State} (records : ∀ i, u.record i = none) (waitList : u.waitList = []) : Move s u

/-- A run of moves. -/
abbrev State.Becomes : State → State → Prop :=
  Relation.ReflTransGen State.Move

/-! ### What every move keeps -/

section Kept
variable {s u : State}

theorem State.holds_of_claimTable (table : u.claimTable = s.claimTable) {i : RecNo} {c : Claim} :
    u.Holds i c ↔ s.Holds i c := by
  have record : u.record i = s.record i := congrArg (fun v : ClaimTable => v.records[i]) table
  rw [State.Holds, record, State.Holds]

theorem State.WaitListExact.of_claimTable (h : s.WaitListExact) (table : u.claimTable = s.claimTable) :
    u.WaitListExact := by
  have list : u.waitList = s.waitList := congrArg ClaimTable.waitList table
  constructor
  · exact list ▸ h.nodup
  · simpa only [list, State.holds_of_claimTable table] using h.exact
  · simpa only [list, State.holds_of_claimTable table] using h.ordered

theorem State.setRecord_Holds_of_ne {i j : RecNo} (other : j ≠ i) {o : Option Claim} {d : Claim} :
    (s.setRecord i o).Holds j d ↔ s.Holds j d := by
  rw [State.Holds, State.setRecord_record_of_ne s o other.symm, State.Holds]

theorem State.setRecord_Holds_self {i : RecNo} {o : Option Claim} {d : Claim} :
    (s.setRecord i o).Holds i d ↔ o = some d := by
  rw [State.Holds, State.setRecord_record_self]

/-- A wait list whose entries' claims are as they were is in order as it was. -/
theorem State.WaitListExact.ordered_of_sublist (h : s.WaitListExact) {l : List RecNo} (sub : l.Sublist s.waitList)
    (same : ∀ j ∈ l, ∀ d, u.Holds j d → s.Holds j d) :
    l.Pairwise fun i j => ∀ c d, u.Holds i c → u.Holds j d → c.priority ≤ d.priority :=
  (h.ordered.sublist sub).imp_of_mem fun ha hb le c d hc hd => le c d (same _ ha c hc) (same _ hb d hd)

theorem State.WaitListExact.leaves (h : s.WaitListExact) {i : RecNo} {o : Option Claim}
    (active : ∀ d, o = some d → d.phase ≠ .waiting) :
    { s.setRecord i o with waitList := s.waitList.filter fun j => j != i }.WaitListExact where
  nodup := h.nodup.filter _
  exact j := by
    change j ∈ s.waitList.filter _ ↔ ∃ c, (s.setRecord i o).Holds j c ∧ _
    rw [List.mem_filter, bne_iff_ne]
    by_cases same : j = i
    · subst same
      simp only [State.setRecord_Holds_self, ne_eq, not_true_eq_false, and_false, false_iff, not_exists, not_and]
      exact active
    · simp only [State.setRecord_Holds_of_ne same, h.exact, ne_eq, same, not_false_eq_true, and_true]
  ordered := h.ordered_of_sublist List.filter_sublist fun j hj d hd =>
    (State.setRecord_Holds_of_ne (bne_iff_ne.mp (List.mem_filter.mp hj).2)).mp hd

theorem State.WaitListExact.advances (h : s.WaitListExact) {i : RecNo} {c d : Claim} (was : s.Holds i c)
    (active : c.phase ≠ .waiting) (stays : d.phase ≠ .waiting) : (s.setRecord i (some d)).WaitListExact := by
  have absent : i ∉ s.waitList := fun listed => by
    obtain ⟨e, he, waiting⟩ := (h.exact i).mp listed
    exact active (Option.some.inj (was.symm.trans he) ▸ waiting)
  have other {j : RecNo} (listed : j ∈ s.waitList) : j ≠ i := fun same => absent (same ▸ listed)
  refine ⟨h.nodup, fun j => ?_, h.ordered_of_sublist (List.Sublist.refl _) fun j hj d hd =>
    (State.setRecord_Holds_of_ne (other hj)).mp hd⟩
  change j ∈ s.waitList ↔ _
  by_cases same : j = i
  · subst same
    simp only [State.setRecord_Holds_self, absent, false_iff, not_exists, not_and, Option.some.injEq]
    rintro _ rfl
    exact stays
  · simp only [State.setRecord_Holds_of_ne same, h.exact]

theorem State.Move.waitListExact (m : s.Move u) (h : s.WaitListExact) : u.WaitListExact := by
  cases m with
  | quiet table => exact h.of_claimTable table
  | leaves i o active => exact h.leaves active
  | advances i c d was active stays => exact h.advances was active stays
  | enters i c free waiting => exact State.entered_waitList free waiting h
  | turns => exact ⟨h.nodup, h.exact, h.ordered⟩
  | empties records waitList =>
    have none (i : RecNo) (c : Claim) : ¬u.Holds i c := fun hc => by cases (records i).symm.trans hc
    exact ⟨waitList ▸ List.nodup_nil, fun i => by simp [waitList, none], waitList ▸ List.Pairwise.nil⟩

theorem State.Move.grantedOnlyInRun (m : s.Move u) (h : s.GrantedOnlyInRun) : u.GrantedOnlyInRun := by
  intro j e g hj granted
  cases m with
  | quiet table =>
    exact (congrArg ClaimTable.mode table).trans (h j e g ((State.holds_of_claimTable table).mp hj) granted)
  | leaves i o active run =>
    by_cases same : j = i
    · subst same
      exact run e g (State.setRecord_Holds_self.mp hj) granted
    · exact h j e g ((State.setRecord_Holds_of_ne same).mp hj) granted
  | advances i c d was _ _ before =>
    by_cases same : j = i
    · subst same
      obtain rfl := Option.some.inj (State.setRecord_Holds_self.mp hj)
      obtain ⟨g', granted'⟩ := before g granted
      exact h j c g' was granted'
    · exact h j e g ((State.setRecord_Holds_of_ne same).mp hj) granted
  | enters i c free waiting =>
    rcases (State.entered_holds free).mp hj with ⟨-, rfl⟩ | old
    · cases waiting.symm.trans granted
    · exact h j e g old granted
  | turns m run => exact run.resolve_right fun no => no j e g hj granted
  | empties records => cases (records j).symm.trans hj

end Kept

end Sys2Proof.Machine
end

section
/-! SUPPORT. The operations that events share, as runs of moves of the claim table; those that leave it as it was. -/

namespace Sys2Proof.Machine

/-! ### Operations that leave the claim table -/

section Frames
variable (s : State)

@[simp] theorem State.setTier_claimTable (t : TierNo) (r : Tier) : (s.setTier t r).claimTable = s.claimTable := rfl
@[simp] theorem State.setPermit_claimTable (t : TierNo) (b : Bool) : (s.setPermit t b).claimTable = s.claimTable := rfl
@[simp] theorem State.setHold_claimTable (k : HoldNo) (a : Option Arc) : (s.setHold k a).claimTable = s.claimTable := rfl
@[simp] theorem State.setPool_claimTable (p : PoolId) (v : Pool) : (s.setPool p v).claimTable = s.claimTable := by
  cases p <;> rfl
@[simp] theorem State.returnPools_claimTable (g : Grant) : (s.returnPools g).claimTable = s.claimTable := rfl
@[simp] theorem State.stopLease_claimTable (t : TierNo) : (s.stopLease t).claimTable = s.claimTable := rfl
@[simp] theorem State.lowerLeases_claimTable : s.lowerLeases.claimTable = s.claimTable := rfl
@[simp] theorem State.placeAt_claimTable (t : TierNo) (p : Pose) (a : Arc) :
    (s.placeAt t p a).claimTable = s.claimTable := rfl
@[simp] theorem State.track_claimTable (t : TierNo) (p : Pose) : (s.track t p).claimTable = s.claimTable := rfl
@[simp] theorem State.clearFaultKind_claimTable (t : TierNo) : (s.clearFaultKind t).claimTable = s.claimTable := rfl
@[simp] theorem State.reply_claimTable (r : Reply) : (s.reply r).claimTable = s.claimTable := rfl
@[simp] theorem State.settle_claimTable : s.settle.claimTable = s.claimTable := rfl
@[simp] theorem State.requestScan_claimTable : s.requestScan.claimTable = s.claimTable := by
  rw [State.requestScan_eq]; rfl
@[simp] theorem State.closeScan_claimTable : s.closeScan.claimTable = s.claimTable := by rw [State.closeScan_eq]; rfl
@[simp] theorem State.rescan_claimTable : s.rescan.claimTable = s.claimTable := by rw [State.rescan_eq]; rfl
@[simp] theorem State.raise_claimTable (k : FaultKind) (t : Option TierNo) (slot : Option SlotNo) (pose : Option Pose) :
    (s.raise k t slot pose).claimTable = s.claimTable := by rw [State.raise_eq]; rfl

@[simp] theorem State.noteClamp_claimTable (t : TierNo) (slot : Option SlotNo) (raw : Nat) (p : Pose) :
    (s.noteClamp t slot raw p).claimTable = s.claimTable := by
  unfold State.noteClamp
  split_ifs
  · exact s.raise_claimTable _ _ _ _
  · rfl

@[simp] theorem State.noteSequence_claimTable (t : TierNo) (seq : Nat) (p : Pose) :
    (s.noteSequence t seq p).claimTable = s.claimTable := by
  unfold State.noteSequence
  dsimp only
  split_ifs
  · exact s.raise_claimTable _ _ _ _
  · rfl

end Frames

/-! ### Claims that the accessors find -/

section Found
variable {s : State} {t : TierNo} {i : RecNo} {c : Claim}

theorem State.holds_of_headClaim (found : s.headClaim t = some (i, c)) : s.Holds i c := by
  unfold State.headClaim at found
  split at found
  · cases found
  · exact (State.claimAt_spec found).1

theorem State.holds_of_activeClaim (found : s.activeClaim t = some (i, c)) : s.Holds i c := by
  unfold State.activeClaim at found
  split at found
  · cases found
  · next head =>
    split_ifs at found
    cases found
    exact State.holds_of_headClaim head

theorem State.holds_of_lowestFree (found : s.lowestFree = some i) : s.record i = none := by
  simpa using List.find?_some found

end Found

/-! ### Claims leave, stop, freeze -/

section Shared
variable {s u : State} (h : s.Becomes u)
include h

theorem State.Becomes.quiet {v : State} (table : v.claimTable = u.claimTable) : s.Becomes v :=
  h.tail (.quiet table)

theorem State.Becomes.unbind (i : RecNo) (b : Handle) (r : Result) : s.Becomes (u.unbind i b r) :=
  State.Becomes.quiet (h.tail (.leaves i none nofun nofun)) rfl

theorem State.Becomes.retireWaiting (i : RecNo) (r : Result) : s.Becomes (u.retireWaiting i r) := by
  unfold State.retireWaiting
  split
  · exact h
  · split_ifs
    · exact h.unbind i _ r
    · exact h

theorem State.Becomes.retireWaitingWhere (p : Claim → Bool) (r : Result) : s.Becomes (u.retireWaitingWhere p r) := by
  refine foldl_keeps (fun v i hv => ?_) _ h
  split_ifs
  · exact State.Becomes.retireWaiting hv i r
  · exact hv

theorem State.Becomes.retireActive (i : RecNo) (b : Handle) (g : Grant) (r : Result) (p : Pose) (a : Arc) :
    s.Becomes (u.retireActive i b g r p a) := by
  have placed : s.Becomes ((((u.returnPools g).setPermit b.tier false).stopLease b.tier).placeAt b.tier p a) :=
    h.quiet (by simp)
  exact placed.unbind i b r

/-- A GRANTED or STOPPING claim is stopped or frozen (R47, R48). -/
theorem State.Becomes.halts {i : RecNo} {c : Claim} {g : Grant} {ph : Phase} (hc : u.Holds i c)
    (active : c.phase = .granted g ∨ c.phase = .stopping g) (halted : ph = .stopping g ∨ ph = .frozen g) :
    s.Becomes (u.setRecord i (some { c with phase := ph })) := by
  refine h.tail (.advances i c _ hc ?_ ?_ fun g' granted => ?_)
  · rcases active with e | e <;> simp [e]
  · rcases halted with rfl | rfl <;> simp
  · rcases halted with rfl | rfl <;> cases granted

theorem State.Becomes.stopRecord (i : RecNo) : s.Becomes (u.stopRecord i) := by
  unfold State.stopRecord
  split
  · exact h
  · next c hc =>
    split
    · next g granted =>
      have stopped := h.halts hc (.inl granted) (.inl rfl)
      exact State.Becomes.quiet stopped rfl
    all_goals exact h

theorem State.Becomes.stopWhere (p : Handle → Arc → Bool) : s.Becomes (u.stopWhere p) := by
  refine foldl_keeps (fun v i hv => ?_) _ h
  split_ifs
  · exact State.Becomes.stopRecord hv i
  · exact hv

theorem State.Becomes.freezeWith {i : RecNo} {c : Claim} {g : Grant} (hc : u.Holds i c)
    (active : c.phase = .granted g ∨ c.phase = .stopping g) : s.Becomes (u.freezeWith i c g) :=
  State.Becomes.quiet (h.halts hc active (.inr rfl)) rfl

theorem State.Becomes.freezeHead (t : TierNo) : s.Becomes (u.freezeHead t) := by
  unfold State.freezeHead
  split
  · exact h
  · next i c head =>
    have hc := State.holds_of_headClaim head
    split
    · next g granted => exact h.freezeWith hc (.inl granted)
    · next g stopping => exact h.freezeWith hc (.inr stopping)
    all_goals exact h

/-! ### Hard faults and leases -/

theorem State.Becomes.hazardStopAround (t : TierNo) (space : Option Arc) : s.Becomes (u.hazardStopAround t space) := by
  unfold State.hazardStopAround State.hazardStop
  split
  · exact h
  · exact h.stopWhere _

theorem State.Becomes.hardFaultEvent (t : TierNo) (k : HardKind) : s.Becomes (u.hardFaultEvent t k) := by
  have faulted : s.Becomes (u.setTier t { u.tier t with fault := some k }) := h.quiet rfl
  have stopped := ((faulted.freezeHead t).retireWaitingWhere (fun c => c.handle.tier == t) .tierFault).hazardStopAround t
    (u.spaceRecord t)
  unfold State.hardFaultEvent
  dsimp only
  split_ifs
  · exact stopped.quiet (State.rescan_claimTable _)
  · exact stopped

theorem State.Becomes.hardFault (t : TierNo) (k : HardKind) (slot : Option SlotNo) (p : Pose) :
    s.Becomes (u.hardFault t k slot p) := by
  have raised : s.Becomes (u.raise (.tier k) (some t) slot (some p)) := h.quiet (by simp)
  unfold State.hardFault
  dsimp only
  split_ifs
  · exact raised.hardFaultEvent t k
  · exact raised

theorem State.Becomes.expire (t : TierNo) : s.Becomes (u.expire t) :=
  (h.hardFault t .lease _ _).quiet (State.stopLease_claimTable _ t)

theorem State.Becomes.tickAll (order : List TierNo) : s.Becomes (u.tickAll order) := by
  have expired := foldl_keeps (P := s.Becomes) (f := State.expireIfDue) (fun v t hv => ?_) (order ++ List.finRange 24)
    (h.quiet u.lowerLeases_claimTable)
  · exact State.Becomes.quiet expired (State.settle_claimTable _)
  · unfold State.expireIfDue
    split_ifs
    · exact State.Becomes.expire hv t
    · exact hv

theorem State.Becomes.leaseExpiry (t : TierNo) : s.Becomes (u.leaseExpiry t) := by
  have lowered : s.Becomes (u.setTier t { u.tier t with lease := 0 }) := h.quiet rfl
  unfold State.leaseExpiry
  split_ifs
  · exact (lowered.expire t).quiet (State.settle_claimTable _)
  · exact h

/-! ### The mode -/

/-- On entry to HALT every GRANTED claim is stopped, so none is GRANTED outside RUN (R147). -/
theorem State.Becomes.enterHalt : s.Becomes u.enterHalt := by
  have stopped : s.Becomes (u.withStopped fun _ _ => true) := State.stopWhere_eq u _ ▸ h.stopWhere _
  have turned : s.Becomes { u.withStopped fun _ _ => true with mode := .halt } :=
    stopped.tail (.turns .halt (.inr fun i c g hc granted => by simpa using (State.withStopped_granted hc granted).2))
  refine turned.quiet ?_
  rw [State.enterHalt, State.stopWhere_eq]
  rfl

theorem State.Becomes.stopnAssert : s.Becomes u.stopnAssert := by
  have raised : s.Becomes ({ u with stopnLow := true }.raise .hallStop none none none) :=
    h.quiet (State.raise_claimTable { u with stopnLow := true } _ _ _ _)
  unfold State.stopnAssert
  dsimp only
  split
  · exact h.quiet rfl
  · exact raised.enterHalt.quiet (State.settle_claimTable _)
  · exact raised.quiet rfl

theorem State.Becomes.enterRun : s.Becomes u.enterRun :=
  State.Becomes.quiet (h.tail (.turns .run (.inl rfl))) (State.rescan_claimTable _)

/-- CONFIG is entered with no active claim (R146). -/
theorem State.Becomes.enterConfig (idle : u.anyActive = false) : s.Becomes u.enterConfig := by
  have turned : s.Becomes { u with mode := .config } := h.tail (.turns .config (.inr fun i c g hc granted => by
    have waits := List.any_eq_false.mp idle i (List.mem_finRange i)
    rw [show u.record i = some c from hc, Option.any_some, Claim.isActive_iff, granted] at waits
    exact waits nofun))
  exact (turned.retireWaitingWhere (fun _ => true) .mode).quiet (by simp [State.enterConfig])

end Shared

end Sys2Proof.Machine
end

section
/-! SUPPORT. Every event as a run of moves of the claim table; that the wait list stays exact and no claim is GRANTED outside
RUN (R60, R75). -/

namespace Sys2Proof.Machine

section Events
variable {s u : State} (h : s.Becomes u)
include h

/-! ### CLAIM and CANCEL -/

theorem State.Becomes.acceptClaim (b : Handle) (m : Motion) (declared : Nat) {i : RecNo} (free : u.record i = none) :
    s.Becomes (u.acceptClaim b m declared i) := by
  rw [State.acceptClaim_eq]
  exact State.Becomes.quiet (h.tail (.enters i _ free rfl)) (State.rescan_claimTable _)

theorem State.Becomes.checkClaim (b : Handle) (m : Motion) (declared : Nat) : s.Becomes (u.checkClaim b m declared) := by
  unfold State.checkClaim State.refuseClaim
  dsimp only
  split_ifs
  · exact h.quiet rfl
  · exact h.quiet rfl
  · split
    · exact h.quiet rfl
    · next found => exact h.acceptClaim b m declared (State.holds_of_lowestFree found)

theorem State.Becomes.arriveClaim (b : Handle) (d : List Byte) : s.Becomes (u.arriveClaim b d) := by
  unfold State.arriveClaim State.refuseClaim
  split
  · exact h.quiet (by simp)
  split
  · exact h.quiet rfl
  split
  · exact h.quiet rfl
  split
  · exact h.quiet rfl
  split
  · exact h.quiet rfl
  · exact h.checkClaim b _ _

theorem State.Becomes.cancelHandle (b : Handle) : s.Becomes (u.cancelHandle b) := by
  unfold State.cancelHandle
  split
  · exact h.quiet (by simp)
  · next i c _ =>
    split
    · exact (h.retireWaiting i .cancelled).quiet (State.rescan_claimTable _)
    · exact h.stopRecord i
    · exact h.quiet rfl
    · exact h.quiet rfl

/-- CANCEL_CLAIM does what a CANCEL does (R51). -/
theorem State.Becomes.revoke {b : Handle} {v : State} {st : ClaimState} (done : u.revoke b = some (v, st)) :
    s.Becomes v := by
  unfold State.revoke at done
  split at done
  · cases done
  · next i c _ =>
    split at done <;> cases done
    · exact (h.retireWaiting i .revoked).quiet (State.rescan_claimTable _)
    · exact h.stopRecord i
    · exact h
    · exact h

/-! ### Visits -/

/-- A claim is GRANTED in RUN (R75). -/
theorem State.Becomes.grant (run : u.mode = .run) (i : RecNo) (c : Claim) (g : Grant) : s.Becomes (u.grant i c g) := by
  have granted := h.tail (.leaves i (some { c with phase := .granted g }) (by rintro _ ⟨⟩; simp) fun _ _ _ _ => run)
  exact State.Becomes.quiet granted rfl

theorem State.Becomes.evaluate (run : u.mode = .run) (i : RecNo) (c : Claim) : s.Becomes (u.evaluate i c) := by
  unfold State.evaluate State.decideClaim
  dsimp only
  split_ifs
  · exact (h.retireWaiting i .origin).quiet (State.requestScan_claimTable _)
  · exact (h.retireWaiting i .ceiling).quiet (State.requestScan_claimTable _)
  · exact h.quiet rfl
  · exact h.quiet rfl
  · exact h.grant run i c _

theorem State.Becomes.visitRecord (run : u.mode = .run) (i : RecNo) : s.Becomes (u.visitRecord i) := by
  have unmarked : s.Becomes (u.unmark i) := h.quiet rfl
  unfold State.visitRecord
  split
  · exact unmarked
  · split_ifs
    · exact unmarked.evaluate run i _
    · exact unmarked

theorem State.Becomes.visit : s.Becomes u.visit := by
  unfold State.visit
  split_ifs with _ run
  · exact h
  · exact h.quiet rfl
  · split
    · exact h.quiet (State.closeScan_claimTable _)
    · next i _ =>
      have visited := h.visitRecord (by simpa using run) i
      exact visited.quiet (by simp)

/-! ### REPORT -/

/-- A trim keeps the phase of the claim it trims (R49). -/
theorem State.Becomes.trimClaim {i : RecNo} {c : Claim} {g : Grant} {phase : Grant → Phase} (hc : u.Holds i c)
    (hg : c.phase = phase g) (held : phase = .granted ∨ phase = .stopping) (p : Nat) :
    s.Becomes (u.trimClaim i c g p phase) := by
  unfold State.trimClaim
  dsimp only
  split_ifs
  · exact h
  · refine State.Becomes.quiet (h.tail (.advances i c _ hc ?_ ?_ fun g' granted => ?_)) (State.rescan_claimTable _)
    · rcases held with rfl | rfl <;> simp [hg]
    · rcases held with rfl | rfl <;> simp
    · rcases held with rfl | rfl
      · exact ⟨g, hg⟩
      · cases granted

theorem State.Becomes.retireStopped (i : RecNo) (b : Handle) (g : Grant) (p : Pose) :
    s.Becomes (u.retireStopped i b g p) :=
  (h.retireActive i b g .stopped p _).quiet (State.rescan_claimTable _)

theorem State.Becomes.containedReport {i : RecNo} {c : Claim} (hc : u.Holds i c) (p : Pose) (moving : Bool) :
    s.Becomes (u.containedReport i c p moving) := by
  unfold State.containedReport
  split
  · next granted => exact h.trimClaim hc granted (.inl rfl) p.pos
  · next stopping =>
    split_ifs
    · exact h.trimClaim hc stopping (.inr rfl) p.pos
    · exact h.retireStopped i c.handle _ p
  · exact h
  · exact h

theorem State.Becomes.superviseMoving {i : RecNo} {c : Claim} (hc : u.Holds i c) (t : TierNo) (g : Grant) (p : Pose)
    (moving : Bool) : s.Becomes (u.superviseMoving t i c g p moving) := by
  have reloaded : s.Becomes (u.reloadLease t) := h.quiet rfl
  unfold State.superviseMoving
  dsimp only
  split_ifs
  · exact reloaded.hardFault t _ _ p
  · exact reloaded.hardFault t _ _ p
  · exact reloaded.containedReport hc p moving

theorem State.Becomes.supervise (t : TierNo) (p : Pose) (moving drive : Bool) :
    s.Becomes (u.supervise t p moving drive) := by
  unfold State.supervise
  split_ifs
  · exact h.hardFault t _ _ p
  · split
    · unfold State.superviseIdle
      split_ifs
      · exact h.hardFault t _ _ p
      · exact h
    iterate 2
      · split
        · exact h
        · next active =>
          split
          · exact h
          · exact h.superviseMoving (State.holds_of_activeClaim active) t _ p moving
    all_goals exact h

theorem State.Becomes.arriveReport (t : TierNo) (d : List Byte) : s.Becomes (u.arriveReport t d) := by
  unfold State.arriveReport State.acceptReport State.handleReport
  dsimp only
  split_ifs
  · exact h
  · exact h.quiet (by simp)
  · refine State.Becomes.quiet (State.Becomes.supervise (h.quiet ?_) t _ _ _) (State.settle_claimTable _)
    simp

/-! ### RELEASE -/

theorem State.Becomes.releaseGranted (i : RecNo) (c : Claim) (g : Grant) (p : Pose) :
    s.Becomes (u.releaseGranted i c g p) := by
  have raised : s.Becomes (u.raise .shortArrival (some c.handle.tier) (some c.handle.slot) (some p)) :=
    h.quiet (by simp)
  unfold State.releaseGranted
  dsimp only
  split_ifs
  · exact (h.retireActive i c.handle g .arrived p _).quiet (State.rescan_claimTable _)
  · exact (raised.retireActive i c.handle g .short p _).quiet (State.rescan_claimTable _)

theorem State.Becomes.releaseChecked (c : Claim) (g : Grant) (d : List Byte) {done : State → Pose → State}
    (ends : ∀ {v : State}, s.Becomes v → ∀ p, s.Becomes (done v p)) : s.Becomes (u.releaseChecked c g d done) := by
  unfold State.releaseChecked
  dsimp only
  split_ifs
  · exact (ends (h.quiet (by simp)) _).quiet (State.settle_claimTable _)
  · refine State.Becomes.quiet (State.Becomes.hardFault (h.quiet ?_) _ _ _ _) (State.settle_claimTable _)
    simp

theorem State.Becomes.arriveRelease (b : Handle) (d : List Byte) : s.Becomes (u.arriveRelease b d) := by
  unfold State.arriveRelease
  split_ifs
  · split
    · exact h.quiet (by simp)
    · next i c _ =>
      split
      · exact h.releaseChecked c _ d fun hv p => hv.releaseGranted i c _ p
      · exact h.releaseChecked c _ d fun hv p => hv.retireStopped i c.handle _ p
      · exact h.quiet rfl
      · exact h.quiet (by simp)
  · exact h.quiet (by simp)

/-! ### Entries of the MP inbound FIFO -/

theorem State.Becomes.withMpFifo (rest : List MpEntry) : s.Becomes { u with mpFifo := rest } :=
  h.quiet rfl

theorem State.Becomes.takeClaim : s.Becomes u.takeClaim := by
  unfold State.takeClaim
  split
  · next rest _ =>
    split_ifs
    · exact (h.withMpFifo rest).arriveClaim _ _
    · exact h
  · exact h

theorem State.Becomes.takeCancel : s.Becomes u.takeCancel := by
  unfold State.takeCancel
  split
  · next rest _ =>
    split_ifs
    · exact (h.withMpFifo rest).cancelHandle _
    · exact h
  · exact h

theorem State.Becomes.takeReport : s.Becomes u.takeReport := by
  unfold State.takeReport
  split
  · next rest _ =>
    split_ifs
    · exact (h.withMpFifo rest).arriveReport _ _
    · exact h
  · exact h

theorem State.Becomes.takeRelease : s.Becomes u.takeRelease := by
  unfold State.takeRelease
  split
  · next rest _ =>
    split_ifs
    · exact (h.withMpFifo rest).arriveRelease _ _
    · exact h
  · exact h

/-! ### Console commands that reach the claim table -/

theorem State.Becomes.setModeRun : s.Becomes u.setModeRun.1 := by
  unfold State.setModeRun
  split
  · exact h
  · exact h
  split
  · exact h
  split
  · exact h
  · exact h.enterRun

theorem State.Becomes.setModeConfig : s.Becomes u.setModeConfig.1 := by
  unfold State.setModeConfig
  split
  · exact h
  all_goals
    split
    · exact h
    · next idle => exact h.enterConfig (Bool.eq_false_iff.mpr idle)

theorem State.Becomes.setMode (e : CpEntry) : s.Becomes (doSetMode e u).1 := by
  unfold doSetMode
  split_ifs
  · exact h.setModeRun
  · exact h.setModeConfig
  · exact h

theorem State.Becomes.halt (e : CpEntry) : s.Becomes (doHalt e u).1 := by
  unfold doHalt
  split
  · exact h
  · exact h
  · exact h.enterHalt.quiet (State.settle_claimTable _)

theorem State.Becomes.resume (e : CpEntry) : s.Becomes (doResume e u).1 := by
  unfold doResume
  split
  · exact h
  · exact h
  · split_ifs
    · exact h
    · exact h.enterRun

theorem State.Becomes.softReset (e : CpEntry) : s.Becomes (doSoftReset e u).1 :=
  h.tail (.empties (fun i => by simp [doSoftReset, State.softReset, State.record]) rfl)

theorem State.Becomes.placeHold (k : HoldNo) (a : Arc) : s.Becomes (u.placeHold k a) :=
  State.Becomes.stopWhere (h.quiet (u.setHold_claimTable k (some a))) _

theorem State.Becomes.placeHoldCommand (e : CpEntry) : s.Becomes (doPlaceHold e u).1 := by
  unfold doPlaceHold
  split
  · exact h
  · dsimp only
    exact h.placeHold _ _

theorem State.Becomes.cancelClaim (e : CpEntry) : s.Becomes (doCancelClaim e u).1 := by
  unfold doCancelClaim
  split
  · exact h
  · exact h
  · split
    · exact h
    · next done => exact h.revoke done

theorem State.Becomes.placeCleared (t : TierNo) (a : Arc) : s.Becomes (u.placeCleared t a) := by
  unfold State.placeCleared
  split
  · next i c g _ => exact h.retireActive i c.handle g .faulted _ a
  · exact h.quiet rfl

theorem State.Becomes.clearTier (e : CpEntry) : s.Becomes (doClearTier e u).1 := by
  unfold doClearTier
  split
  · exact h
  split
  · exact h
  split
  · exact h
  split
  · exact h
  · next t _ _ _ _ a _ => exact (h.placeCleared t a).quiet (by simp [State.clearTier])

end Events

/-! ### Events that leave the claim table -/

section Quiet
variable (s : State)

theorem State.mpAccept_claimTable (c : MpClass) (b : Handle) (d : List Byte) :
    (s.mpAccept c b d).claimTable = s.claimTable := by
  unfold State.mpAccept
  split_ifs
  · simp
  · rfl
  · simp

theorem State.mpArrival_claimTable (f : Frame) : (s.mpArrival f).claimTable = s.claimTable := by
  unfold State.mpArrival
  split
  · rfl
  split
  · rfl
  split
  · unfold State.mpIgnore
    split_ifs <;> rfl
  · exact s.mpReceived.mpAccept_claimTable _ _ _

theorem State.discardDisabled_claimTable : s.discardDisabled.claimTable = s.claimTable := by
  unfold State.discardDisabled
  split
  · rfl
  · split_ifs <;> rfl

theorem State.noticeStart_claimTable : s.noticeStart.claimTable = s.claimTable := by
  unfold State.noticeStart
  split_ifs
  · rfl
  · split <;> rfl

theorem State.noticeComplete_claimTable : s.noticeComplete.claimTable = s.claimTable := by
  unfold State.noticeComplete
  split <;> rfl

theorem State.noticeFail_claimTable (why : TxFailure) : (s.noticeFail why).claimTable = s.claimTable := by
  unfold State.noticeFail
  split <;> rfl

theorem State.cpArrival_claimTable (f : Frame) : (s.cpArrival f).claimTable = s.claimTable := by
  unfold State.cpArrival State.cpAccept
  dsimp only
  split_ifs
  · rfl
  · rfl
  · exact State.raise_claimTable { s with cpPort := s.cpPort.received } _ _ _ _
  · rfl

theorem State.replyStart_claimTable : s.replyStart.claimTable = s.claimTable := by
  unfold State.replyStart
  split_ifs
  · rfl
  · split <;> rfl

theorem State.replyComplete_claimTable : s.replyComplete.claimTable = s.claimTable := by
  unfold State.replyComplete
  split <;> rfl

theorem State.replyFail_claimTable (why : TxFailure) : (s.replyFail why).claimTable = s.claimTable := by
  unfold State.replyFail
  split <;> rfl

variable (e : CpEntry)

theorem doWriteTier_claimTable : (doWriteTier e s).1.claimTable = s.claimTable := by
  unfold doWriteTier
  split
  · rfl
  split
  · rfl
  · rfl
  · dsimp only
    split_ifs <;> rfl

theorem doReadTier_claimTable : (doReadTier e s).1.claimTable = s.claimTable := by
  unfold doReadTier
  split
  · rfl
  · split <;> rfl

theorem doSetRest_claimTable : (doSetRest e s).1.claimTable = s.claimTable := by
  unfold doSetRest
  split
  · rfl
  · split <;> rfl

theorem doAdopt_claimTable : (doAdopt e s).1.claimTable = s.claimTable := by
  unfold doAdopt
  split_ifs
  · rfl
  · split
    · rfl
    · split_ifs <;> rfl

theorem doWriteGlobal_claimTable : (doWriteGlobal e s).1.claimTable = s.claimTable := by
  unfold doWriteGlobal
  split
  · rfl
  · split <;> rfl

theorem doReadGlobal_claimTable : (doReadGlobal e s).1.claimTable = s.claimTable := by
  unfold doReadGlobal
  split <;> rfl

theorem doWriteCeiling_claimTable : (doWriteCeiling e s).1.claimTable = s.claimTable := by
  unfold doWriteCeiling
  dsimp only
  split_ifs
  · rfl
  · rfl
  · rfl
  all_goals simp only [State.claimTable]

theorem State.setCapacity_claimTable (p : PoolId) (v : Nat) : (s.setCapacity p v).claimTable = s.claimTable := by
  unfold State.setCapacity
  dsimp only
  split_ifs <;> simp

theorem doSetPool_claimTable : (doSetPool e s).1.claimTable = s.claimTable := by
  unfold doSetPool
  split
  · rfl
  · exact s.setCapacity_claimTable _ _

theorem doLiftHold_claimTable : (doLiftHold e s).1.claimTable = s.claimTable := by
  unfold doLiftHold
  split
  · rfl
  · split_ifs
    · rfl
    · simp

theorem doSetCursor_claimTable : (doSetCursor e s).1.claimTable = s.claimTable := by
  unfold doSetCursor
  split
  · rfl
  · dsimp only
    split_ifs <;> rfl

theorem doReadNext_claimTable : (doReadNext e s).1.claimTable = s.claimTable := by
  unfold doReadNext
  split <;> rfl

end Quiet

/-! ### Every event -/

section Exec
variable {s u v : State}

theorem becomes_of_next (e : (Host.Outcome.next v : Host.Outcome State Fault Refusal) = .next u) (h : s.Becomes v) :
    s.Becomes u :=
  Host.Outcome.next.inj e ▸ h

theorem State.Becomes.powered {f : State → State} (acts : ∀ s : State, s.Becomes s → s.Becomes (f s)) :
    s.Becomes (s.powered f) :=
  State.powered_cases .refl (acts s .refl)

theorem State.Becomes.powered_quiet {f : State → State} (table : ∀ s : State, (f s).claimTable = s.claimTable) :
    s.Becomes (s.powered f) :=
  .powered fun s h => h.quiet (table s)

theorem State.Becomes.executeIf {due : CpEntry → Bool} {run : CpEntry → State → State × Answer}
    (acts : ∀ {s u : State}, s.Becomes u → ∀ e, s.Becomes (run e u).1) : s.Becomes (s.executeIf due run) :=
  State.executeIf_cases .refl fun e rest =>
    State.Becomes.quiet (acts (State.Becomes.quiet (u := s) (v := { s with cpFifo := rest }) .refl rfl) e)
      (State.reply_claimTable _ _)

/-- A console command, at whatever moment its event falls (R166, R168). -/
theorem State.Becomes.command (code : Nat) {run : CpEntry → State → State × Answer}
    (acts : ∀ {s u : State}, s.Becomes u → ∀ e, s.Becomes (run e u).1) :
    s.Becomes (s.powered fun s => s.execute code run) :=
  .powered fun _ _ => .executeIf acts

theorem State.Becomes.command_quiet (code : Nat) {run : CpEntry → State → State × Answer}
    (table : ∀ s e, (run e s).1.claimTable = s.claimTable) : s.Becomes (s.powered fun s => s.execute code run) :=
  .command code fun {_ u} h e => h.quiet (table u e)

theorem State.powerOnReset_empties (cause : ResetCause) (low : Bool) : s.Move (s.powerOnReset cause low) := by
  cases cause <;> exact .empties (fun i => by simp [State.powerOnReset, State.powerOnValues, State.reset, State.record]) rfl

/-- Every event is a run of moves of the claim table. -/
theorem exec_becomes {i : Instr} (e : exec i s = .next u) : s.Becomes u := by
  cases i with
  | powerOnReset cause low => exact becomes_of_next e (.single (State.powerOnReset_empties cause low))
  | resetnRisingEdge straps low =>
    refine becomes_of_next e (.single (.empties (fun i => ?_) rfl))
    simp [State.resetnRise, State.powerOnValues, State.reset, State.record, State.driveAttn]
  | stopnAssertion => exact becomes_of_next e (.powered fun _ h => h.stopnAssert)
  | stopnRelease => exact becomes_of_next e (.powered_quiet fun _ => rfl)
  | tick order => exact becomes_of_next e (.powered fun _ h => h.tickAll order)
  | leaseExpiry t => exact becomes_of_next e (.powered fun _ h => h.leaseExpiry t)
  | mpFrameArrival f => exact becomes_of_next e (.powered_quiet fun s => s.mpArrival_claimTable f)
  | mpReceiveError | busOffRecovery | cpReceiveError | cpBusOffRecovery =>
    exact becomes_of_next e (.powered_quiet fun _ => rfl)
  | disabledEntryDiscard => exact becomes_of_next e (.powered_quiet State.discardDisabled_claimTable)
  | claim => exact becomes_of_next e (.powered fun _ h => h.takeClaim)
  | cancel => exact becomes_of_next e (.powered fun _ h => h.takeCancel)
  | report => exact becomes_of_next e (.powered fun _ h => h.takeReport)
  | release => exact becomes_of_next e (.powered fun _ h => h.takeRelease)
  | visit => exact becomes_of_next e (.powered fun _ h => h.visit)
  | noticeStart => exact becomes_of_next e (.powered_quiet State.noticeStart_claimTable)
  | noticeCompletion => exact becomes_of_next e (.powered_quiet State.noticeComplete_claimTable)
  | noticeFailure why => exact becomes_of_next e (.powered_quiet fun s => s.noticeFail_claimTable why)
  | cpCommandArrival f => exact becomes_of_next e (.powered_quiet fun s => s.cpArrival_claimTable f)
  | replyStart => exact becomes_of_next e (.powered_quiet State.replyStart_claimTable)
  | replyCompletion => exact becomes_of_next e (.powered_quiet State.replyComplete_claimTable)
  | replyFailure why => exact becomes_of_next e (.powered_quiet fun s => s.replyFail_claimTable why)
  | unknownCommand => exact becomes_of_next e (.powered fun _ _ => .executeIf fun h _ => h)
  | readStatus => exact becomes_of_next e (.command_quiet 0x01 (run := doReadStatus) fun _ _ => rfl)
  | setMask => exact becomes_of_next e (.command_quiet 0x02 (run := doSetMask) fun _ _ => rfl)
  | readFault => exact becomes_of_next e (.command_quiet 0x03 (run := doReadFault) fun _ _ => rfl)
  | clearFault => exact becomes_of_next e (.command_quiet 0x04 (run := doClearFault) fun _ _ => rfl)
  | setMode => exact becomes_of_next e (.command 0x05 State.Becomes.setMode)
  | halt => exact becomes_of_next e (.command 0x06 State.Becomes.halt)
  | resume => exact becomes_of_next e (.command 0x07 State.Becomes.resume)
  | softReset => exact becomes_of_next e (.command 0x08 State.Becomes.softReset)
  | writeTier => exact becomes_of_next e (.command_quiet 0x10 doWriteTier_claimTable)
  | readTier => exact becomes_of_next e (.command_quiet 0x11 doReadTier_claimTable)
  | setRest => exact becomes_of_next e (.command_quiet 0x12 doSetRest_claimTable)
  | adopt => exact becomes_of_next e (.command_quiet 0x13 doAdopt_claimTable)
  | writeGlobal => exact becomes_of_next e (.command_quiet 0x14 doWriteGlobal_claimTable)
  | readGlobal => exact becomes_of_next e (.command_quiet 0x15 doReadGlobal_claimTable)
  | writeCeiling => exact becomes_of_next e (.command_quiet 0x16 doWriteCeiling_claimTable)
  | setPool => exact becomes_of_next e (.command_quiet 0x20 doSetPool_claimTable)
  | placeHold => exact becomes_of_next e (.command 0x21 State.Becomes.placeHoldCommand)
  | liftHold => exact becomes_of_next e (.command_quiet 0x22 doLiftHold_claimTable)
  | cancelClaim => exact becomes_of_next e (.command 0x23 State.Becomes.cancelClaim)
  | clearTier => exact becomes_of_next e (.command 0x24 State.Becomes.clearTier)
  | setCursor => exact becomes_of_next e (.command_quiet 0x30 doSetCursor_claimTable)
  | readNext => exact becomes_of_next e (.command_quiet 0x31 doReadNext_claimTable)

/-- Every step is a run of moves of the claim table. -/
theorem step_becomes (e : step s = .next u) : s.Becomes u := by
  unfold step at e
  split at e
  · exact becomes_of_next e .refl
  · next rest _ =>
    have taken : s.Move { s with pending := rest } := .quiet rfl
    exact .head taken (exec_becomes e)

/-- What every move keeps, a run of moves keeps. -/
theorem State.Becomes.keeps {P : State → Prop} (keeps : ∀ {s u : State}, s.Move u → P s → P u) (h : s.Becomes u)
    (hs : P s) : P u := by
  induction h with
  | refl => exact hs
  | tail _ move ih => exact keeps move ih

end Exec

/-- Settles O56: a step is a run of moves of the claim table, and each move keeps the wait list exact and in order. -/
theorem stepKeepsWaitListExact : Obligations.StepKeepsWaitListExact :=
  fun _ _ h e => (step_becomes e).keeps State.Move.waitListExact h

/-- Settles O57: a step is a run of moves of the claim table, of which only a grant makes a claim GRANTED, in RUN, and none
leaves RUN while a claim is GRANTED. -/
theorem stepKeepsGrantedOnlyInRun : Obligations.StepKeepsGrantedOnlyInRun :=
  fun _ _ h e => (step_becomes e).keeps State.Move.grantedOnlyInRun h

end Sys2Proof.Machine
end

section
/-! SUPPORT. Scan requests and the test for a scan's end, case by case (R64 to R66). -/

namespace Sys2Proof.Machine

section Scans
variable {s : State}

theorem State.startScan_empty (empty : s.waitList = []) : s.startScan = { s with scan := Scan.idle } := by
  rw [State.startScan_eq, empty]
  rfl

/-- A scan of a nonempty wait list marks every record in it (R65). -/
theorem State.startScan_nonempty (nonempty : s.waitList ≠ []) :
    s.startScan =
      { s with
        scan := { running := true, rescan := false, marks := Vector.ofFn fun i => decide (i ∈ s.waitList), shadows := [],
                  hydShadow := false, slewShadow := false } } := by
  simp [State.startScan, nonempty]

theorem State.membersLeft_eq_false : s.membersLeft = false ↔ ∀ i ∈ s.waitList, s.marked i = false := by
  simp [State.membersLeft]

theorem State.membersLeft_eq_true : s.membersLeft = true ↔ ∃ i ∈ s.waitList, s.marked i = true := by
  simp [State.membersLeft]

/-- A scan that has begun has members (R65). -/
theorem State.startScan_membersLeft (nonempty : s.waitList ≠ []) : s.startScan.membersLeft = true := by
  obtain ⟨i, listed⟩ := List.exists_mem_of_ne_nil _ nonempty
  rw [State.startScan_nonempty nonempty]
  exact State.membersLeft_eq_true.mpr ⟨i, listed, by simp [State.marked, listed]⟩

/-! ### The test for a scan's end (R66) -/

theorem State.closeScan_stopped (stopped : s.scan.running = false) : s.closeScan = s := by
  simp [State.closeScan, stopped]

theorem State.closeScan_members (members : s.membersLeft = true) : s.closeScan = s := by
  simp [State.closeScan, members]

section Ended
variable (running : s.scan.running = true) (ended : s.membersLeft = false)
include running ended

theorem State.closeScan_restarts (run : s.mode = .run) (pending : s.scan.rescan = true) : s.closeScan = s.startScan := by
  simp [State.closeScan, running, ended, run, pending]

theorem State.closeScan_ends (last : s.mode ≠ .run ∨ s.scan.rescan = false ∨ s.waitList = []) :
    s.closeScan = { s with scan := Scan.idle } := by
  by_cases restarts : s.mode = .run ∧ s.scan.rescan = true
  · have empty : s.waitList = [] := by simpa [restarts.1, restarts.2] using last
    rw [State.closeScan_restarts running ended restarts.1 restarts.2, State.startScan_empty empty]
  · simp [State.closeScan, running, ended, restarts, State.endScan]

end Ended

/-! ### Requests (R64) -/

theorem State.requestScan_not_run (mode : s.mode ≠ .run) : s.requestScan = s := by
  unfold State.requestScan
  split
  · next run => exact absurd run mode
  · rfl
  · rfl

theorem State.requestScan_running (run : s.mode = .run) (running : s.scan.running = true) :
    s.requestScan = { s with scan := { s.scan with rescan := true } } := by
  simp [State.requestScan, run, running]

theorem State.requestScan_stopped (run : s.mode = .run) (stopped : s.scan.running = false) :
    s.requestScan = s.startScan := by
  simp [State.requestScan, run, stopped]

theorem State.rescan_not_run (mode : s.mode ≠ .run) : s.rescan = s.closeScan := by
  rw [State.rescan, State.requestScan_not_run mode]

/-- A request during a scan with members left waits for its end. -/
theorem State.rescan_during (run : s.mode = .run) (running : s.scan.running = true) (members : s.membersLeft = true) :
    s.rescan = { s with scan := { s.scan with rescan := true } } := by
  rw [State.rescan, State.requestScan_running run running]
  exact State.closeScan_members members

/-- A request with no scan running, or at a scan's end, starts one; with no record in the wait list it ends at once. -/
theorem State.rescan_starts (run : s.mode = .run) (due : s.scan.running = false ∨ s.membersLeft = false) :
    s.rescan = s.startScan := by
  rw [State.rescan]
  rcases Bool.eq_false_or_eq_true s.scan.running with running | stopped
  · have ended := due.resolve_left (by simp [running])
    rw [State.requestScan_running run running]
    exact State.closeScan_restarts (s := { s with scan := { s.scan with rescan := true } }) running ended run rfl
  · rw [State.requestScan_stopped run stopped]
    by_cases empty : s.waitList = []
    · rw [State.startScan_empty empty]
      exact State.closeScan_stopped rfl
    · exact State.closeScan_members (State.startScan_membersLeft empty)

end Scans

/-- Settles O15: a request and the test for a scan's end, by mode, running scan, members left, and wait list. -/
theorem scanRequestByModeAndRunning : Obligations.ScanRequestByModeAndRunning := by
  intro s
  simp only [← State.membersLeft_eq_true, ← State.membersLeft_eq_false]
  refine ⟨fun mode members => ?_, fun mode running ended => ?_, State.rescan_during, fun run due nonempty => ?_,
    fun run empty => ?_, fun stays => ?_, fun running ended => ⟨State.closeScan_ends running ended,
      fun run pending nonempty => ?_⟩, ?_⟩
  · rw [State.rescan_not_run mode]
    rcases Bool.eq_false_or_eq_true s.scan.running with running | stopped
    · exact State.closeScan_members (members running)
    · exact State.closeScan_stopped stopped
  · rw [State.rescan_not_run mode, State.closeScan_ends running ended (.inl mode)]
  · rw [State.rescan_starts run due, State.startScan_nonempty nonempty]
  · rw [State.rescan_starts run (.inr (by simp [State.membersLeft, empty])), State.startScan_empty empty]
  · exact stays.elim State.closeScan_stopped State.closeScan_members
  · rw [State.closeScan_restarts running ended run pending, State.startScan_nonempty nonempty]
  · have unmarked : Vector.replicate 64 false = Vector.ofFn fun _ : Fin 64 => false := Vector.ext fun i hi => by simp
    rw [Scan.idle, unmarked]

end Sys2Proof.Machine
end

section
/-! SUPPORT. Visits: the tests of an evaluation, what a visit leaves of the scan, and each outcome (R67 to R76). -/

namespace Sys2Proof.Machine

/-! ### The tests (R69 to R73) -/

section Tests
variable {s : State}

theorem State.spaceTest_iff {t : TierNo} {a : Arc} : s.spaceTest t a = true ↔ s.ArcIsFree t a := by
  simp only [State.spaceTest, Bool.and_eq_true, State.clearOfOthers_iff, List.all_eq_true, List.mem_finRange,
    true_imp_iff, Bool.not_eq_true', Option.any_eq_false]
  exact ⟨fun ⟨⟨tiers, holds⟩, shadows⟩ => ⟨tiers, holds, shadows⟩,
    fun free => ⟨⟨free.tiers, free.holds⟩, free.shadows⟩⟩

theorem Pool.admits_iff {p : Pool} {shadowed : Bool} {demand : Nat} :
    p.admits shadowed demand = true ↔ p.HasRoom shadowed demand := by
  simp [Pool.admits, Pool.HasRoom]

theorem State.poolTest_iff {g : Grant} : s.poolTest g = true ↔
    s.hyd.HasRoom s.scan.hydShadow g.hydDraw ∧ s.slew.HasRoom s.scan.slewShadow g.slewDraw := by
  rw [State.poolTest, Bool.and_eq_true, Pool.admits_iff, Pool.admits_iff]

/-- The envelope of a claim holds its origin rake, so a claim with no rake travel draws no HYD power (R13, R73). -/
theorem State.geometryAtRest_envelope (c : Claim) : (s.geometryAtRest c).lo ≤ (s.geometryAtRest c).hi :=
  (Nat.min_le_left _ _).trans (Nat.le_max_left _ _)

/-- The fields from grant of a claim evaluated at its tier's rest pose (R75). -/
def State.grantAtRest (s : State) (c : Claim) : Grant :=
  let geo := s.geometryAtRest c
  { arc := geo.arc, lo := geo.lo, hi := geo.hi, slewDraw := s.slewDemand c geo, hydDraw := s.hydDemand c geo }

theorem State.grantOf_atRest (c : Claim) : grantOf (s.tier c.handle.tier).cfg (s.geometryAtRest c) = s.grantAtRest c := by
  have envelope := s.geometryAtRest_envelope c
  have slew : slewDemandOf (s.tier c.handle.tier).cfg (s.geometryAtRest c) = s.slewDemand c (s.geometryAtRest c) := by
    unfold slewDemandOf State.slewDemand
    split_ifs <;> omega
  have hyd : hydDemandOf (s.tier c.handle.tier).cfg (s.geometryAtRest c) = s.hydDemand c (s.geometryAtRest c) := by
    unfold hydDemandOf State.hydDemand
    split_ifs <;> omega
  rw [grantOf, slew, hyd, State.grantAtRest]

end Tests

/-! ### Evaluations -/

section Evaluate
variable {s : State} {i : RecNo} {c : Claim} {g : Grant}

theorem State.evaluate_eq (s : State) (i : RecNo) (c : Claim) : s.evaluate i c =
    if outOfReach (s.geometryAtRest c).dist then (s.retireWaiting i .origin).requestScan
    else if !ceilingCheck s.ceilings (s.geometryAtRest c) then (s.retireWaiting i .ceiling).requestScan
    else s.decideClaim i c (s.grantAtRest c) := by
  rw [← State.grantOf_atRest]
  rfl

theorem State.evaluate_far (far : 32767 < (s.geometryAtRest c).dist) :
    s.evaluate i c = (s.retireWaiting i .origin).requestScan := by
  simp [State.evaluate_eq, outOfReach, far]

theorem State.evaluate_high (near : (s.geometryAtRest c).dist ≤ 32767)
    (high : ceilingOver s.ceilings (s.geometryAtRest c).arc < (s.geometryAtRest c).hi) :
    s.evaluate i c = (s.retireWaiting i .ceiling).requestScan := by
  simp [State.evaluate_eq, outOfReach, ceilingCheck, Nat.not_lt.mpr near, high]

theorem State.evaluate_decides (near : (s.geometryAtRest c).dist ≤ 32767)
    (under : (s.geometryAtRest c).hi ≤ ceilingOver s.ceilings (s.geometryAtRest c).arc) :
    s.evaluate i c = s.decideClaim i c (s.grantAtRest c) := by
  simp [State.evaluate_eq, outOfReach, ceilingCheck, Nat.not_lt.mpr near, under]

theorem State.decideClaim_blocked (blocked : ¬s.ArcIsFree c.handle.tier g.arc) :
    s.decideClaim i c g = s.castShadow g.arc := by
  simp [State.decideClaim, Bool.eq_false_iff.mpr (mt State.spaceTest_iff.mp blocked)]

theorem State.decideClaim_short (free : s.ArcIsFree c.handle.tier g.arc)
    (short : ¬(s.hyd.HasRoom s.scan.hydShadow g.hydDraw ∧ s.slew.HasRoom s.scan.slewShadow g.slewDraw)) :
    s.decideClaim i c g = (s.castShadow g.arc).shadowPools g := by
  simp [State.decideClaim, State.spaceTest_iff.mpr free, Bool.eq_false_iff.mpr (mt State.poolTest_iff.mp short)]

theorem State.decideClaim_grants (free : s.ArcIsFree c.handle.tier g.arc)
    (hyd : s.hyd.HasRoom s.scan.hydShadow g.hydDraw) (slew : s.slew.HasRoom s.scan.slewShadow g.slewDraw) :
    s.decideClaim i c g = s.grant i c g := by
  simp [State.decideClaim, State.spaceTest_iff.mpr free, State.poolTest_iff.mpr ⟨hyd, slew⟩]

end Evaluate

/-! ### A record's mark is cleared before its claim is evaluated (R67) -/

section Unmark
variable {s : State} {i : RecNo} {c : Claim}

theorem State.unmark_arcIsFree {t : TierNo} {a : Arc} : (s.unmark i).ArcIsFree t a ↔ s.ArcIsFree t a := by
  rw [← State.spaceTest_iff, ← State.spaceTest_iff]
  rfl

theorem State.unmark_grantAtRest : (s.unmark i).grantAtRest c = s.grantAtRest c := rfl

theorem State.unmark_withFreed (h : Handle) (r : Result) : (s.unmark i).withFreed i h r = s.withFreed i h r := by
  simp [State.unmark, State.withFreed, State.tier]

theorem State.unmark_grant (g : Grant) : (s.unmark i).grant i c g = s.grant i c g := by
  simp [State.grant_eq, State.unmark, State.tier]

/-- The retirement of a visited claim sends a scan request, which waits for the end of the scan that runs (R52, R64). -/
theorem State.unmark_retire {r : Result} (hc : s.record i = some c) (waiting : c.phase = .waiting) (run : s.mode = .run)
    (running : s.scan.running = true) :
    ((s.unmark i).retireWaiting i r).requestScan =
      { s.withFreed i c.handle r with scan := { (s.withFreed i c.handle r).scan with rescan := true } } := by
  have held : (s.unmark i).record i = some c := hc
  rw [State.retireWaiting_waiting r held waiting, State.unmark_withFreed]
  exact State.requestScan_running run running

end Unmark

/-! ### Outcomes -/

/-- Settles O17: a visit outside RUN ends the scan, and one to a claim that is not eligible clears its mark alone. -/
theorem visitEndsOrSkips : Obligations.VisitEndsOrSkips := by
  intro s powered running
  refine ⟨fun mode => ?_, fun i c run first hc ineligible => ?_⟩
  · rw [exec_visit powered]
    simp [State.visit, running, mode, State.endScan]
  · have skipped : (s.unmark i).eligible c = false := by
      have tier : (s.unmark i).tierState c.handle.tier = s.tierState c.handle.tier := rfl
      simpa [State.eligible, tier, run, imp_iff_not_or] using ineligible
    have held : (s.unmark i).record i = some c := hc
    rw [exec_visit_first powered running run first, State.visitRecord, held]
    simp only [skipped, Bool.false_eq_true, if_false]
    rfl

/-- Settles O18: the first two checks of an evaluation retire the claim they fail, and the retirement's request finds a scan
running. -/
theorem visitRetiresOutOfReachOrTooHigh : Obligations.VisitRetiresOutOfReachOrTooHigh := by
  intro s i c visited
  have retire (r : Result) := State.unmark_retire (r := r) visited.claim visited.waiting visited.mode visited.running
  refine ⟨fun far => ?_, fun near high => ?_⟩
  · rw [exec_visit_eligible visited, State.evaluate_far (s := s.unmark i) far, retire]
  · rw [exec_visit_eligible visited, State.evaluate_high (s := s.unmark i) near high, retire]

/-- Settles O19: a claim that fails the space test, or the pool test after it, casts its shadow. -/
theorem visitLeavesWaitingWithShadow : Obligations.VisitLeavesWaitingWithShadow := by
  intro s i c visited geo near under
  have decides := State.evaluate_decides (s := s.unmark i) (i := i) near under
  rw [exec_visit_eligible visited, decides, State.unmark_grantAtRest]
  refine ⟨fun blocked => ?_, fun free short => ?_⟩
  · rw [State.decideClaim_blocked (mt State.unmark_arcIsFree.mp blocked)]
    rfl
  · have clear : (s.unmark i).ArcIsFree c.handle.tier (s.grantAtRest c).arc := State.unmark_arcIsFree.mpr free
    rw [State.decideClaim_short clear short]
    simp only [← Nat.pos_iff_ne_zero]
    rfl

/-- Settles O20: a claim that passes both tests is granted. -/
theorem visitGrantsWhatPassesBothTests : Obligations.VisitGrantsWhatPassesBothTests := by
  intro s i c visited geo t near under free hyd slew
  have decides := State.evaluate_decides (s := s.unmark i) (i := i) near under
  have clear : (s.unmark i).ArcIsFree c.handle.tier (s.grantAtRest c).arc := State.unmark_arcIsFree.mpr free
  rw [exec_visit_eligible visited, decides, State.unmark_grantAtRest, State.decideClaim_grants clear hyd slew,
    State.unmark_grant, State.grant_eq]
  rfl

/-! ### What a visit leaves of the scan -/

/-- A visit to record `i` uses up its membership: the mark is cleared, no other record is marked or unmarked, and none but
`i` leaves the wait list. A retirement of the claim asks for a new scan (R52, R67). -/
structure State.UsesUp (s u : State) (i : RecNo) : Prop where
  mode : u.mode = s.mode
  running : u.scan.running = s.scan.running
  marks : u.scan.marks = s.scan.marks.set i false
  waitList : u.waitList = s.waitList ∨ u.waitList = s.waitList.filter fun j => j != i
  rescan : ∀ c, s.record i = some c → c.phase = .waiting →
    (u.scan.rescan = true ↔ s.scan.rescan = true ∨ u.record i = none)

section UsesUp
variable {s u : State} {i : RecNo} {c : Claim}

/-- Where the claim stays in its record, the visit asks for no new scan. -/
theorem State.UsesUp.of_bound (mode : u.mode = s.mode) (running : u.scan.running = s.scan.running)
    (rescan : u.scan.rescan = s.scan.rescan) (marks : u.scan.marks = s.scan.marks.set i false)
    (waitList : u.waitList = s.waitList ∨ u.waitList = s.waitList.filter fun j => j != i)
    (bound : s.record i ≠ none → u.record i ≠ none) : s.UsesUp u i :=
  ⟨mode, running, marks, waitList, fun c hc _ => by simp [rescan, bound (by simp [hc])]⟩

theorem State.usesUp_retire (hc : s.record i = some c) (run : s.mode = .run) (running : s.scan.running = true)
    (r : Result) : s.UsesUp ((s.unmark i).retireWaiting i r).requestScan i := by
  by_cases waiting : c.phase = .waiting
  · rw [State.unmark_retire hc waiting run running]
    exact ⟨rfl, rfl, rfl, .inr rfl, fun _ _ _ => by simp [State.withFreed, State.record]⟩
  · have stays : (s.unmark i).retireWaiting i r = s.unmark i := by
      simp [State.retireWaiting, hc, mt (Claim.isWaiting_iff c).mp waiting]
    rw [stays, State.requestScan_running (s := s.unmark i) run running]
    exact ⟨rfl, rfl, rfl, .inl rfl, fun d hd waits => absurd (Option.some.inj (hc.symm.trans hd) ▸ waits) waiting⟩

theorem State.usesUp_evaluate (hc : s.record i = some c) (run : s.mode = .run) (running : s.scan.running = true) :
    s.UsesUp ((s.unmark i).evaluate i c) i := by
  rw [State.evaluate_eq, State.decideClaim]
  split_ifs
  · exact State.usesUp_retire hc run running .origin
  · exact State.usesUp_retire hc run running .ceiling
  · exact .of_bound rfl rfl rfl rfl (.inl rfl) id
  · exact .of_bound rfl rfl rfl rfl (.inl rfl) id
  · rw [State.unmark_grant, State.grant_eq]
    exact .of_bound rfl rfl rfl rfl (.inr rfl) fun _ => by simp [State.record]

/-- A visit in RUN uses up the membership of the record it is to (R67). -/
theorem State.usesUp_visitRecord (run : s.mode = .run) (running : s.scan.running = true) (i : RecNo) :
    s.UsesUp (s.visitRecord i) i := by
  have skipped : s.UsesUp (s.unmark i) i := .of_bound rfl rfl rfl rfl (.inl rfl) id
  unfold State.visitRecord
  split
  · exact skipped
  · next c hc =>
    split_ifs
    · exact State.usesUp_evaluate hc run running
    · exact skipped

/-- The members left after a visit are those before it but for the one visited. -/
theorem State.UsesUp.members (h : s.UsesUp u i) :
    u.waitList.filter u.marked = (s.waitList.filter s.marked).filter fun j => j != i := by
  have marked : u.marked = fun j => j != i && s.marked j := funext fun j => by
    have same : u.marked j = (s.unmark i).marked j := congrArg (fun v : Vector Bool 64 => v[j]) h.marks
    rw [same, State.unmark_marked]
    grind
  rw [marked, List.filter_filter]
  rcases h.waitList with list | list
  · rw [list]
  · rw [list, List.filter_filter]
    exact List.filter_congr fun j _ => by rw [Bool.and_right_comm, Bool.and_self]

/-- Members are left exactly when the filter of the wait list by marks is not empty. -/
theorem State.membersLeft_iff : s.membersLeft = true ↔ s.waitList.filter s.marked ≠ [] := by
  rw [State.membersLeft, List.any_eq_true, ne_eq, List.filter_eq_nil_iff]
  simp

theorem State.firstMarked_of_members {rest : List RecNo} (members : s.waitList.filter s.marked = i :: rest) :
    s.FirstMarked i := by
  have found : s.waitList.find? s.marked = some i := by rw [← List.head?_filter, members, List.head?_cons]
  obtain ⟨marked, before, after, list, unmarked⟩ := List.find?_eq_some_iff_append.mp found
  exact ⟨before, after, list, marked, by simpa using unmarked⟩

end UsesUp

/-- Settles O16: a visit uses up the first member; with more to come the scan goes on, after the last it ends or starts
again. -/
theorem visitUsesUpOneMember : Obligations.VisitUsesUpOneMember := by
  refine ⟨fun s powered running run nodup two => ?_, fun s i powered running run exact last => ?_⟩
  · obtain ⟨i, rest, members⟩ := List.exists_cons_of_length_pos (Nat.lt_of_lt_of_le Nat.two_pos two)
    have used := State.usesUp_visitRecord run running i
    have distinct : (i :: rest).Nodup := members ▸ nodup.filter _
    have others : (s.visitRecord i).waitList.filter (s.visitRecord i).marked = rest := by
      rw [used.members, members, ← distinct.erase_eq_filter, List.erase_cons_head]
    rw [members, List.length_cons] at two ⊢
    have left : (s.visitRecord i).membersLeft = true := by
      rw [State.membersLeft_iff, others]
      exact List.ne_nil_of_length_pos (by omega)
    refine ⟨_, exec_visit_first powered running run (State.firstMarked_of_members members), ?_⟩
    rw [State.closeScan_members left]
    exact ⟨used.running.trans running, congrArg (·.length + 1) others⟩
  · have used := State.usesUp_visitRecord run running i
    have listed : i ∈ s.waitList := List.mem_of_mem_filter (last ▸ List.mem_singleton_self i)
    obtain ⟨c, hc, waiting⟩ := (exact.exact i).mp listed
    have asks := used.rescan c hc waiting
    have going := used.running.trans running
    have ended : (s.visitRecord i).membersLeft = false := by
      refine Bool.eq_false_iff.mpr fun left => State.membersLeft_iff.mp left ?_
      simp [used.members, last]
    refine ⟨_, exec_visit_first powered running run (State.firstMarked_of_members last), ?_⟩
    simp only [State.settle_scan, State.settle_record, State.settle_waitList, State.closeScan_record,
      State.closeScan_waitList]
    refine ⟨fun settled bound => ?_, fun empty => ?_, fun again nonempty => ?_⟩
    · rw [State.closeScan_ends going ended (.inr (.inl (Bool.eq_false_iff.mpr fun pending => ?_)))]
      exact (asks.mp pending).elim (by simp [settled]) bound
    · rw [State.closeScan_ends going ended (.inr (.inr empty))]
    · rw [State.closeScan_restarts going ended (used.mode.trans run) (asks.mpr again), State.startScan_nonempty nonempty]

end Sys2Proof.Machine
end

section
/-! SUPPORT. SET_POOL, PLACE_HOLD and LIFT_HOLD, row by row (chapter 5). -/

namespace Sys2Proof.Machine

/-- What a command answers depends on its effect at the part without the taken entry alone. -/
theorem State.answer_congr {s : State} {e : CpEntry} {rest : List CpEntry} {f g : State → State}
    (same : f { s with cpFifo := rest } = g { s with cpFifo := rest }) (st : Status) (results : List Byte) :
    s.answer e rest f st results = s.answer e rest g st results := by
  rw [State.answer, same, State.answer]

/-! ### SET_POOL (R95, R96) -/

theorem poolOfCode_of_lt {n : Nat} (h : 1 < n) : poolOfCode n = none := by
  unfold poolOfCode
  split <;> simp at *

/-- A raise of a capacity sends a scan request (R96). -/
theorem State.setCapacity_raise {s : State} {p : PoolId} {w : Nat} (raise : (s.pool p).capacity < w) :
    s.setCapacity p w = (s.setPool p { s.pool p with capacity := w }).rescan.settle :=
  if_pos raise

/-- A capacity that is lowered, or set to what it was, sends none (R96). -/
theorem State.setCapacity_le {s : State} {p : PoolId} {w : Nat} (le : w ≤ (s.pool p).capacity) :
    s.setCapacity p w = (s.setPool p { s.pool p with capacity := w }).settle :=
  if_neg (Nat.not_lt.mpr le)

section SetPool
variable {s : State} {e : CpEntry} {rest : List CpEntry} (due : s.CommandDue e rest 0x20)
include due

theorem exec_setPool_range (bad : 1 < byteAt e.data 2) : exec .setPool s = .next (s.refusal e rest .range) := by
  rw [exec_setPool due, doSetPool, poolOfCode_of_lt bad, State.afterCommand_refuse]

variable {p : PoolId} {code w : Nat} {st : Status} (arg : byteAt e.data 2 = code) (pool : poolOfCode code = some p)
  (value : w = min (word32At e.data 3) 4095) (status : st = if word32At e.data 3 ≤ 4095 then Status.ok else .clamped)
include arg pool value status

/-- The capacity is the value saturated to 4095, and the reply names it with the committed total as it stands (R95). -/
theorem exec_setPool_pool : exec .setPool s =
    .next (s.answer e rest (fun u => u.setCapacity p w) st (u8 code ++ u16 w ++ u16 (s.pool p).committed)) := by
  subst value status
  rw [exec_setPool due, doSetPool, arg, pool, ← State.afterCommand_of]
  cases p <;> rfl

theorem exec_setPool_raise (raise : (s.pool p).capacity < w) : exec .setPool s =
    .next (s.answer e rest (fun u => (u.setPool p { u.pool p with capacity := w }).rescan.settle) st
      (u8 code ++ u16 w ++ u16 (s.pool p).committed)) := by
  rw [exec_setPool_pool due arg pool value status]
  refine congrArg _ (State.answer_congr (State.setCapacity_raise ?_) _ _)
  cases p <;> exact raise

theorem exec_setPool_le (le : w ≤ (s.pool p).capacity) : exec .setPool s =
    .next (s.answer e rest (fun u => (u.setPool p { u.pool p with capacity := w }).settle) st
      (u8 code ++ u16 w ++ u16 (s.pool p).committed)) := by
  rw [exec_setPool_pool due arg pool value status]
  refine congrArg _ (State.answer_congr (State.setCapacity_le ?_) _ _)
  cases p <;> exact le

end SetPool

/-- Settles O42: the pool argument, then for each pool the raise and the write that is none. -/
theorem setPoolByRow : Obligations.SetPoolByRow := by
  intro s e rest due v w st status
  refine ⟨exec_setPool_range due, fun hyd => ⟨fun raise => ?_, fun le => ?_⟩, fun slew => ⟨fun raise => ?_, fun le => ?_⟩⟩
  · exact exec_setPool_raise due hyd (p := .hyd) rfl rfl status raise
  · exact exec_setPool_le due hyd (p := .hyd) rfl rfl status le
  · exact exec_setPool_raise due slew (p := .slew) rfl rfl status raise
  · exact exec_setPool_le due slew (p := .slew) rfl rfl status le

/-! ### PLACE_HOLD (R87, R88) -/

theorem State.lowestFreeHold_eq_none {s : State} (occupied : ∀ k, s.hold k ≠ none) : s.lowestFreeHold = none :=
  List.find?_eq_none.mpr fun k _ => by simpa using occupied k

theorem State.lowestFreeHold_eq_some {s : State} {k : HoldNo} (free : s.hold k = none)
    (lowest : ∀ j, j < k → s.hold j ≠ none) : s.lowestFreeHold = some k := by
  rw [State.lowestFreeHold, ← Fin.find?_eq_find?_finRange, Fin.find?_eq_some_iff]
  exact ⟨Option.isNone_iff_eq_none.mpr free, fun j lt =>
    Bool.eq_false_iff.mpr (mt Option.isNone_iff_eq_none.mp (lowest j lt))⟩

/-- A hold's length is saturated to 1 to 65535 (R87). -/
theorem saturatedLength_eq (len : Nat) : max 1 (min len 65535) = if len = 0 then 1 else min len 65535 := by
  split <;> omega

/-- The stops of a placed hold as one update of the state (R88). -/
theorem State.placeHold_eq (s : State) (k : HoldNo) (a : Arc) :
    s.placeHold k a = (s.setHold k (some a)).withStopped fun _ b => a.overlaps b :=
  State.stopWhere_eq _ _

section PlaceHold
variable {s : State} {e : CpEntry} {rest : List CpEntry} (due : s.CommandDue e rest 0x21)
include due

theorem exec_placeHold_full (occupied : ∀ k, s.hold k ≠ none) :
    exec .placeHold s = .next (s.refusal e rest .full) := by
  rw [exec_placeHold due, doPlaceHold, State.lowestFreeHold_eq_none (s := { s with cpFifo := rest }) occupied,
    State.afterCommand_refuse]

theorem exec_placeHold_free {k : HoldNo} (free : s.hold k = none) (lowest : ∀ j, j < k → s.hold j ≠ none) {a : Arc}
    (arc : a = ⟨min (word32At e.data 2) 65535, max 1 (min (word32At e.data 6) 65535)⟩) :
    exec .placeHold s = .next (s.answer e rest (fun u => u.placeHold k a)
      (if word32At e.data 2 ≤ 65535 ∧ 1 ≤ word32At e.data 6 ∧ word32At e.data 6 ≤ 65535 then .ok else .clamped)
      (u8 k.val ++ u16 a.start ++ u16 a.length)) := by
  rw [arc, exec_placeHold due, doPlaceHold, State.lowestFreeHold_eq_some (s := { s with cpFifo := rest }) free lowest,
    ← State.afterCommand_of]

end PlaceHold

/-! ### LIFT_HOLD (R90) -/

theorem holdOfNat_val (k : HoldNo) : holdOfNat k.val = some k :=
  dif_pos k.isLt

theorem holdOfNat_of_lt {n : Nat} (h : 7 < n) : holdOfNat n = none :=
  dif_neg (by omega)

section LiftHold
variable {s : State} {e : CpEntry} {rest : List CpEntry} (due : s.CommandDue e rest 0x22)
include due

theorem exec_liftHold_range (bad : 7 < byteAt e.data 2) : exec .liftHold s = .next (s.refusal e rest .range) := by
  rw [exec_liftHold due, doLiftHold, holdOfNat_of_lt bad, State.afterCommand_refuse]

variable {k : HoldNo} (arg : byteAt e.data 2 = k.val)
include arg

theorem exec_liftHold_free (free : s.hold k = none) : exec .liftHold s = .next (s.refusal e rest .notActive) := by
  rw [exec_liftHold due, doLiftHold, arg, holdOfNat_val, ← State.afterCommand_refuse]
  exact congrArg (fun r => Host.Outcome.next (State.afterCommand e r)) (if_pos (Option.isNone_iff_eq_none.mpr free))

theorem exec_liftHold_occupied (occupied : s.hold k ≠ none) : exec .liftHold s =
    .next (s.answer e rest (fun u => (u.setHold k none).rescan) .ok (u8 k.val)) := by
  rw [exec_liftHold due, doLiftHold, arg, holdOfNat_val, ← State.afterCommand_of]
  exact congrArg (fun r => Host.Outcome.next (State.afterCommand e r))
    (if_neg (mt Option.isNone_iff_eq_none.mp occupied))

end LiftHold

/-- Settles O43: the lowest free entry if there is one, and the stops as one update of the state; then the rows of
LIFT_HOLD. -/
theorem holdsPlacedAndLiftedByRow : Obligations.HoldsPlacedAndLiftedByRow := by
  refine ⟨fun s e rest due => ?_, fun s e rest due => ⟨exec_liftHold_range due, fun k arg =>
    ⟨exec_liftHold_free due arg, exec_liftHold_occupied due arg⟩⟩⟩
  intro start len a st status
  refine ⟨exec_placeHold_full due, fun k free lowest => ?_⟩
  have arc : a = ⟨min start 65535, max 1 (min len 65535)⟩ := congrArg (Arc.mk _) (saturatedLength_eq len).symm
  rw [exec_placeHold_free due free lowest arc, status]
  refine congrArg Host.Outcome.next (State.answer_congr ?_ _ _)
  exact State.placeHold_eq _ k a

end Sys2Proof.Machine
end

section
/-! SUPPORT. The tier hard-fault event, item by item: the freeze, the retirements, the hazard stop, the scan request (R127 to
R129). -/

namespace Sys2Proof.Machine

/-! ### Claims picked by their handle -/

section Picked
variable {s : State} {q : Claim → Bool}

theorem State.anyClaim_congr {u : State} (same : ∀ j, (u.record j).any q = (s.record j).any q) :
    u.anyClaim q = s.anyClaim q :=
  congrArg (List.any (List.finRange 64)) (funext same)

theorem State.anyClaim_iff_any : s.anyClaim q = true ↔ ∃ j, (s.record j).any q = true := by
  simp [State.anyClaim]

/-- The one claim of a handle is picked, or no claim of it is (R39). -/
theorem State.HandlesUnique.anyClaim_handle (unique : s.HandlesUnique) {i : RecNo} {c : Claim} (hc : s.Holds i c) :
    s.anyClaim (fun d => q d && d.handle == c.handle) = q c := by
  rw [Bool.eq_iff_iff, State.anyClaim_iff]
  refine ⟨fun ⟨j, d, hd, picked⟩ => ?_, fun picked => ⟨i, c, hc, by simp [picked]⟩⟩
  rw [Bool.and_eq_true, beq_iff_eq] at picked
  obtain ⟨picked, handle⟩ := picked
  obtain rfl := unique j i d c hd hc handle
  rwa [Option.some.inj (hc.symm.trans hd)]

theorem State.anyClaim_vacant {h : Handle} (vacant : ∀ j d, s.Holds j d → d.handle ≠ h) :
    s.anyClaim (fun d => q d && d.handle == h) = false := by
  rw [← Bool.not_eq_true, State.anyClaim_iff]
  rintro ⟨j, d, hd, picked⟩
  rw [Bool.and_eq_true, beq_iff_eq] at picked
  exact vacant j d hd picked.2

end Picked

theorem State.tier_of_headClaim {s : State} {t : TierNo} {i : RecNo} {c : Claim} (found : s.headClaim t = some (i, c)) :
    c.handle.tier = t := by
  unfold State.headClaim at found
  split at found
  · cases found
  · rw [(State.claimAt_spec found).2]

/-! ### Retirements and hazard stop of a failed tier (R128, R129) -/

/-- A stop around a hazard arc, of other tiers' claims (R129). -/
def stopsAround (t : TierNo) (z : Hazard) : Handle → Arc → Bool :=
  fun h a => h.tier != t && z.overlaps a

/-- The claim is WAITING and the tier's own (R128). -/
def Claim.waitsAt (t : TierNo) (c : Claim) : Bool :=
  c.isWaiting && c.handle.tier == t

/-- The tier's WAITING claims retire TIER_FAULT, and other tiers' GRANTED claims under the hazard arc stop (R128, R129). -/
def State.clearAround (s : State) (t : TierNo) (z : Hazard) : State :=
  (s.withRetired (fun c => c.handle.tier == t) .tierFault).withStopped (stopsAround t z)

theorem Claim.grantedAnd_around (c : Claim) (t : TierNo) (z : Hazard) :
    c.grantedAnd (stopsAround t z) = (c.handle.tier != t && c.grantedAnd fun _ a => z.overlaps a) := by
  rcases c with ⟨_, _, _, _, phase⟩
  cases phase <;> simp [Claim.grantedAnd, stopsAround]

theorem Claim.grantedAnd_waiting {c : Claim} (waiting : c.isWaiting = true) (p : Handle → Arc → Bool) :
    c.grantedAnd p = false := by
  rw [Claim.isWaiting_iff] at waiting
  simp [Claim.grantedAnd, waiting]

theorem Claim.waitsAt_active {c : Claim} (active : c.phase ≠ .waiting) (t : TierNo) : c.waitsAt t = false := by
  rw [Claim.waitsAt, Bool.eq_false_iff.mpr (mt c.isWaiting_iff.mp active), Bool.false_and]

theorem Claim.waitsAt_waiting {c : Claim} (waiting : c.phase = .waiting) {t : TierNo} (own : c.handle.tier = t) :
    c.waitsAt t = true := by
  rw [Claim.waitsAt, c.isWaiting_iff.mpr waiting, own, Bool.true_and, beq_self_eq_true]

section ClearAround
variable (s : State) (t : TierNo) (z : Hazard)

theorem State.clearAround_record (j : RecNo) : (s.clearAround t z).record j =
    if (s.record j).any (Claim.waitsAt t) then none
    else (s.record j).map fun d => if d.grantedAnd (stopsAround t z) then d.stopped else d := by
  rw [State.clearAround, State.withStopped_record, State.withRetired_record]
  exact apply_ite (Option.map _) _ none _

/-- No retired claim was GRANTED, so the stops find the claims they would have found before. -/
theorem State.withRetired_any_granted (p : Handle → Arc → Bool) (f q : Claim → Bool) (r : Result) (j : RecNo) :
    ((s.withRetired q r).record j).any (fun d => d.grantedAnd p && f d) =
      (s.record j).any fun d => d.grantedAnd p && f d := by
  rw [State.withRetired_record]
  split_ifs with retires
  · cases hd : s.record j with
    | none => rfl
    | some d =>
      rw [hd, Option.any_some, Bool.and_eq_true] at retires
      simp [Claim.grantedAnd_waiting retires.1]
  · rfl

theorem State.clearAround_permitLine (v : TierNo) : (s.clearAround t z).permitLine v =
    (s.permitLine v && !s.anyClaim fun d => d.grantedAnd (stopsAround t z) && d.handle.tier == v) := by
  rw [State.clearAround, State.withStopped_permitLine, State.withRetired_permitLine,
    State.anyClaim_congr (s.withRetired_any_granted _ _ _ _)]

theorem State.clearAround_mailbox (h : Handle) : (s.clearAround t z).mailbox h =
    if s.anyClaim fun d => d.grantedAnd (stopsAround t z) && d.handle == h then ⟨.stopping, .granted, true⟩
    else if s.anyClaim fun d => d.waitsAt t && d.handle == h then ⟨.free, .tierFault, true⟩ else s.mailbox h := by
  rw [State.clearAround, State.withStopped_mailbox, State.withRetired_mailbox,
    State.anyClaim_congr (s.withRetired_any_granted _ _ _ _)]
  rfl

theorem State.clearAround_tier_self : (s.clearAround t z).tier t =
    { s.tier t with
      legs := (s.tier t).legs.filter fun k => !s.anyClaim fun d => d.isWaiting && d.handle == ⟨t, k⟩ } := by
  rw [State.clearAround, State.withStopped_tier, State.withRetired_tier]
  have own (k : SlotNo) : s.anyClaim (fun d => (d.isWaiting && d.handle.tier == t) && d.handle == ⟨t, k⟩) =
      s.anyClaim fun d => d.isWaiting && d.handle == ⟨t, k⟩ := by
    refine congrArg s.anyClaim (funext fun d => ?_)
    by_cases here : d.handle = ⟨t, k⟩
    · simp [here]
    · simp [beq_eq_false_iff_ne.mpr here]
  simp only [own]

theorem State.clearAround_tier_of_ne {v : TierNo} (other : v ≠ t) : (s.clearAround t z).tier v = s.tier v := by
  have away (k : SlotNo) : s.anyClaim (fun d => (d.isWaiting && d.handle.tier == t) && d.handle == ⟨v, k⟩) = false := by
    rw [← Bool.not_eq_true, State.anyClaim_iff]
    rintro ⟨j, d, -, picked⟩
    simp only [Bool.and_eq_true, beq_iff_eq] at picked
    obtain ⟨⟨-, own⟩, handle⟩ := picked
    exact other (by rw [← own, handle])
  rw [State.clearAround, State.withStopped_tier, State.withRetired_tier]
  simp [away]

/-- Beside the claim table the retirements leave the wait list and the member marks without the retired records. -/
theorem State.clearAround_eq : s.clearAround t z =
    { s with
      tiers := (s.clearAround t z).tiers, records := (s.clearAround t z).records
      mailboxes := (s.clearAround t z).mailboxes, permit := (s.clearAround t z).permit
      waitList := s.waitList.filter fun j => !(s.record j).any (Claim.waitsAt t)
      scan := { s.scan with marks := Vector.ofFn fun j => s.marked j && !(s.record j).any (Claim.waitsAt t) } } := by
  unfold State.clearAround State.withStopped State.withRetired
  rfl

/-- Where no claim of the tier waits, its scan state stays. -/
theorem State.clearAround_scan_idle (idle : s.anyClaim (Claim.waitsAt t) = false) : (s.clearAround t z).scan = s.scan := by
  rw [State.clearAround, State.withStopped_scan, ← State.retireWaitingWhere_eq, State.retireWaitingWhere_none idle]

section Claims
variable {s t z} {j : RecNo} {d : Claim} (unique : s.HandlesUnique) (hd : s.Holds j d)
include unique hd

/-- A WAITING claim of the tier retires TIER_FAULT (R128). -/
theorem State.clearAround_waiting (own : d.handle.tier = t) (waiting : d.phase = .waiting) :
    (s.clearAround t z).record j = none ∧ (s.clearAround t z).mailbox d.handle = ⟨.free, .tierFault, true⟩ := by
  have retires := Claim.waitsAt_waiting waiting own
  have stays := Claim.grantedAnd_waiting (d.isWaiting_iff.mpr waiting) (stopsAround t z)
  refine ⟨?_, ?_⟩
  · rw [State.clearAround_record, show s.record j = some d from hd, Option.any_some, if_pos retires]
  · rw [State.clearAround_mailbox, unique.anyClaim_handle hd, unique.anyClaim_handle hd, stays, retires]
    rfl

/-- A GRANTED claim of another tier under the hazard arc stops (R129). -/
theorem State.clearAround_stopped (away : d.handle.tier ≠ t) (under : d.grantedAnd (fun _ a => z.overlaps a) = true) :
    (s.clearAround t z).record j = some d.stopped ∧
      (s.clearAround t z).mailbox d.handle = ⟨.stopping, .granted, true⟩ ∧
      (s.clearAround t z).permitLine d.handle.tier = false := by
  have stops : d.grantedAnd (stopsAround t z) = true := by simp [Claim.grantedAnd_around, away, under]
  have stays : d.waitsAt t = false := by simp [Claim.waitsAt, away]
  refine ⟨?_, ?_, ?_⟩
  · rw [State.clearAround_record, show s.record j = some d from hd, Option.any_some, if_neg (by simp [stays]),
      Option.map_some, if_pos stops]
  · rw [State.clearAround_mailbox, unique.anyClaim_handle hd, if_pos stops]
  · rw [State.clearAround_permitLine, (s.anyClaim_iff _).mpr ⟨j, d, hd, by simp [stops]⟩]
    simp

/-- Any other claim stays as it is. -/
theorem State.clearAround_kept (stays : d.waitsAt t = false) (clear : d.grantedAnd (stopsAround t z) = false) :
    (s.clearAround t z).record j = some d ∧ (s.clearAround t z).mailbox d.handle = s.mailbox d.handle := by
  refine ⟨?_, ?_⟩
  · rw [State.clearAround_record, show s.record j = some d from hd, Option.any_some, if_neg (by simp [stays]),
      Option.map_some, if_neg (by simp [clear])]
  · rw [State.clearAround_mailbox, unique.anyClaim_handle hd, unique.anyClaim_handle hd, if_neg (by simp [clear]),
      if_neg (by simp [stays])]

end Claims

theorem State.clearAround_free {j : RecNo} (free : s.record j = none) : (s.clearAround t z).record j = none := by
  rw [State.clearAround_record, free]
  rfl

theorem State.clearAround_mailbox_vacant {h : Handle} (vacant : ∀ j d, s.Holds j d → d.handle ≠ h) :
    (s.clearAround t z).mailbox h = s.mailbox h := by
  rw [State.clearAround_mailbox, State.anyClaim_vacant vacant, State.anyClaim_vacant vacant]
  rfl

/-- A PERMIT line stays where the hazard arc reaches no claim of its tier. -/
theorem State.clearAround_permitLine_clear {v : TierNo}
    (clear : ∀ j d, s.Holds j d → d.handle.tier = v → d.grantedAnd (fun _ a => z.overlaps a) = false) :
    (s.clearAround t z).permitLine v = s.permitLine v := by
  have none : s.anyClaim (fun d => d.grantedAnd (stopsAround t z) && d.handle.tier == v) = false := by
    rw [← Bool.not_eq_true, State.anyClaim_iff]
    rintro ⟨j, d, hd, picked⟩
    rw [Bool.and_eq_true, beq_iff_eq, Claim.grantedAnd_around] at picked
    obtain ⟨stops, own⟩ := picked
    simp [clear j d hd own] at stops
  simp [State.clearAround_permitLine, none]

end ClearAround

/-! ### The freeze of the head claim (R48, R127) -/

theorem State.freezeHead_tier_of_ne (s : State) {t v : TierNo} (other : v ≠ t) :
    (s.freezeHead t).tier v = s.tier v := by
  unfold State.freezeHead
  split
  · rfl
  · next i c head =>
    have away : ¬c.handle.tier = v := fun own => other (own.symm.trans (State.tier_of_headClaim head))
    split
    · rw [State.freezeWith_tier, if_neg away]
    · rw [State.freezeWith_tier, if_neg away]
    · rfl
    · rfl

/-! ### The event (R127) -/

section Event
variable {s : State} {t : TierNo} {k : HardKind}

/-- The tier hard-fault event touches no other tier's record. -/
theorem State.hardFaultEvent_tier_of_ne {v : TierNo} (other : v ≠ t) : (s.hardFaultEvent t k).tier v = s.tier v := by
  have cleared (u : State) : (u.withRetired (fun c => c.handle.tier == t) .tierFault).tier v = u.tier v := by
    rw [← u.clearAround_tier_of_ne t .wholeRing other, State.clearAround, State.withStopped_tier]
  have frozen : ((s.setTier t { s.tier t with fault := some k }).freezeHead t).tier v = s.tier v := by
    rw [State.freezeHead_tier_of_ne _ other, State.setTier_tier_of_ne _ _ (Ne.symm other)]
  rw [State.hardFaultEvent_eq]
  dsimp only
  split_ifs
  · rw [State.rescan_tier]
    cases s.spaceRecord t <;> simp only [State.withStopped_tier, cleared, frozen]
  · cases s.spaceRecord t <;> simp only [State.withStopped_tier, cleared, frozen]

theorem State.hardFault_tier_of_ne {v : TierNo} (slot : Option SlotNo) (p : Pose) (other : v ≠ t) :
    (s.hardFault t k slot p).tier v = s.tier v := by
  unfold State.hardFault
  dsimp only
  split_ifs
  · rw [State.hardFaultEvent_tier_of_ne other, State.raise_tier]
  · rw [State.raise_tier]

variable {i : RecNo} {c : Claim} {g : Grant}

/-- The tier with its active claim frozen and its fault kind set, before claims retire and stop (R48, R127). -/
def State.frozenBy (s : State) (t : TierNo) (k : HardKind) (i : RecNo) (c : Claim) (g : Grant) : State :=
  (s.setTier t { s.tier t with fault := some k }).freezeWith i c g

section Frozen
variable (s t k g)

theorem State.frozenBy_record (i j : RecNo) (c : Claim) : (s.frozenBy t k i c g).record j =
    if i = j then some { c with phase := .frozen g } else s.record j :=
  State.freezeWith_record ..

theorem State.frozenBy_mailbox (i : RecNo) (c : Claim) (h : Handle) : (s.frozenBy t k i c g).mailbox h =
    if c.handle = h then ⟨.frozen, .granted, true⟩ else s.mailbox h :=
  State.freezeWith_mailbox ..

theorem State.frozenBy_permitLine (i : RecNo) (c : Claim) (v : TierNo) : (s.frozenBy t k i c g).permitLine v =
    if c.handle.tier = v then false else s.permitLine v :=
  State.freezeWith_permitLine ..

theorem State.frozenBy_tier_self (i : RecNo) (own : c.handle.tier = t) : (s.frozenBy t k i c g).tier t =
    { s.tier t with fault := some k, lease := 0, leaseRunning := false } := by
  rw [State.frozenBy, State.freezeWith_tier, if_pos own, own, State.setTier_tier_self]

variable {s t k g}

theorem State.frozenBy_holds_self : (s.frozenBy t k i c g).Holds i { c with phase := .frozen g } :=
  (s.frozenBy_record ..).trans (if_pos rfl)

theorem State.frozenBy_holds {j : RecNo} {d : Claim} (other : j ≠ i) :
    (s.frozenBy t k i c g).Holds j d ↔ s.Holds j d := by
  rw [State.Holds, State.frozenBy_record, if_neg (Ne.symm other), State.Holds]

/-- A freeze keeps every claim in its record, with its handle. -/
theorem State.frozenBy_handle (hc : s.Holds i c) {j : RecNo} {d : Claim} (hd : (s.frozenBy t k i c g).Holds j d) :
    ∃ e, s.Holds j e ∧ e.handle = d.handle := by
  by_cases here : j = i
  · subst here
    rw [← Option.some.inj (State.frozenBy_holds_self.symm.trans hd)]
    exact ⟨c, hc, rfl⟩
  · exact ⟨d, (State.frozenBy_holds here).mp hd, rfl⟩

theorem State.frozenBy_unique (hc : s.Holds i c) (unique : s.HandlesUnique) : (s.frozenBy t k i c g).HandlesUnique := by
  intro j l d e hd he same
  obtain ⟨d', hd', handle⟩ := State.frozenBy_handle hc hd
  obtain ⟨e', he', handle'⟩ := State.frozenBy_handle hc he
  exact unique j l d' e' hd' he' (handle.trans (same.trans handle'.symm))

/-- A freeze neither makes nor removes a WAITING claim. -/
theorem State.frozenBy_any_waiting (hc : s.Holds i c) (active : c.phase ≠ .waiting) (f : Claim → Bool) (j : RecNo) :
    ((s.frozenBy t k i c g).record j).any (fun d => d.isWaiting && f d) =
      (s.record j).any fun d => d.isWaiting && f d := by
  rw [State.frozenBy_record]
  split_ifs with here
  · rw [← here, show s.record i = some c from hc, Option.any_some, Option.any_some,
      Bool.eq_false_iff.mpr (mt c.isWaiting_iff.mp active)]
    rfl
  · rfl

end Frozen

theorem State.activeClaim_of_head (head : s.headClaim t = some (i, c)) (active : c.phase ≠ .waiting) :
    s.activeClaim t = some (i, c) := by
  simp [State.activeClaim, head, Claim.isActive_iff.mpr active]

theorem State.spaceRecord_of_active (enabled : (s.tier t).cfg.enabled = true) (placed : (s.tier t).placed = true)
    (found : s.activeClaim t = some (i, c)) (grant : c.grant? = some g) : s.spaceRecord t = some g.arc := by
  simp [State.spaceRecord, enabled, placed, State.activeArc, found, grant]

/-- The event of a tier with a GRANTED or STOPPING head claim: freeze, retirements and hazard stop around its arc, then the
scan request of the retirements (R127 to R129). -/
theorem State.hardFaultEvent_active (head : s.headClaim t = some (i, c))
    (phase : c.phase = .granted g ∨ c.phase = .stopping g) (enabled : (s.tier t).cfg.enabled = true)
    (placed : (s.tier t).placed = true) :
    s.hardFaultEvent t k =
      let u := (s.frozenBy t k i c g).clearAround t (hazardArc s.globals.stopMargin g.arc)
      if s.anyClaim (Claim.waitsAt t) then u.rescan else u := by
  have active : c.phase ≠ .waiting := by rcases phase with e | e <;> simp [e]
  have grant : c.grant? = some g := by rcases phase with e | e <;> simp [Claim.grant?, e]
  have faulted : (s.setTier t { s.tier t with fault := some k }).headClaim t = some (i, c) :=
    (State.headClaim_congr (s := s) (u := s.setTier t _) (by rw [State.setTier_tier_self]) rfl).trans head
  rw [State.hardFaultEvent_eq,
    State.spaceRecord_of_active enabled placed (State.activeClaim_of_head head active) grant,
    State.freezeHead_active faulted phase]
  rfl

end Event

end Sys2Proof.Machine
end

section
/-! SUPPORT. Ticks and lease expiries, item by item (R113, R114). -/

namespace Sys2Proof.Machine

/-! ### The expiries of one tick (R113) -/

section Ticks
variable {s : State} {t : TierNo}

theorem Tier.expired_iff (r : Tier) : r.expired = true ↔ r.leaseRunning = true ∧ r.lease = 0 := by
  simp [Tier.expired]

theorem Tier.tick_expired_iff (r : Tier) : r.tick.expired = true ↔ r.leaseRunning = true ∧ r.lease ≤ 1 := by
  rw [Tier.expired_iff, Tier.tick]
  split_ifs with running
  · exact and_congr_right fun _ => by dsimp only; omega
  · simp [running]

theorem State.expire_tier_self (s : State) (t : TierNo) : (s.expire t).tier t =
    { (s.hardFault t .lease (s.activeSlot t) (s.tier t).tracked).tier t with lease := 0, leaseRunning := false } :=
  State.setTier_tier_self ..

theorem State.expire_tier_of_ne (s : State) {v : TierNo} (other : v ≠ t) : (s.expire t).tier v = s.tier v := by
  rw [State.expire, State.stopLease_tier, if_neg (Ne.symm other), State.hardFault_tier_of_ne _ _ other]

theorem State.expireAll_none (none : ∀ v, ¬(s.tier v).expired = true) (order : List TierNo) :
    order.foldl State.expireIfDue s = s := by
  induction order with
  | nil => rfl
  | cons v order ih => rw [List.foldl_cons, State.expireIfDue, if_neg (none v), ih]

/-- Where one lease has run down it expires once, whatever the order, and no other does. -/
theorem State.expireAll_one (due : (s.tier t).expired = true) (only : ∀ v, v ≠ t → ¬(s.tier v).expired = true)
    {order : List TierNo} (listed : t ∈ order) : order.foldl State.expireIfDue s = s.expire t := by
  induction order with
  | nil => exact absurd listed List.not_mem_nil
  | cons v order ih =>
    by_cases here : v = t
    · subst here
      have spent (w : TierNo) : ¬((s.expire v).tier w).expired = true := by
        by_cases self : w = v
        · rw [self, State.expire_tier_self, Tier.expired_iff]
          exact fun expired => nomatch expired.1
        · rw [s.expire_tier_of_ne self]
          exact only w self
      rw [List.foldl_cons, State.expireIfDue, if_pos due, State.expireAll_none spent]
    · rw [List.foldl_cons, State.expireIfDue, if_neg (only v here)]
      exact ih ((List.mem_cons.mp listed).resolve_left (Ne.symm here))

theorem State.tickAll_none (order : List TierNo) (none : ∀ v, (s.tier v).leaseRunning = true → 2 ≤ (s.tier v).lease) :
    s.tickAll order = s.lowerLeases.settle := by
  rw [State.tickAll, State.expireAll_none fun v => ?_]
  rw [State.lowerLeases_tier, Tier.tick_expired_iff]
  exact fun ⟨running, last⟩ => absurd (none v running) (by omega)

/-- With one lease at its last tick, the other countdowns are lowered and that lease expires. -/
theorem State.tickAll_one (order : List TierNo) (running : (s.tier t).leaseRunning = true) (last : (s.tier t).lease = 1)
    (only : ∀ v, v ≠ t → (s.tier v).leaseRunning = true → 2 ≤ (s.tier v).lease) :
    s.tickAll order = (s.lowerLeases.expire t).settle := by
  rw [State.tickAll, State.expireAll_one (t := t) ?_ (fun v other => ?_)
    (List.mem_append_right _ (List.mem_finRange t))]
  · rw [State.lowerLeases_tier, Tier.tick_expired_iff]
    exact ⟨running, last.le⟩
  · rw [State.lowerLeases_tier, Tier.tick_expired_iff]
    exact fun ⟨running, last⟩ => absurd (only v other running) (by omega)

/-- LEASE_EXPIRY of a lease at its last tick takes that tick's count with it (assumption log 4). -/
theorem State.leaseExpiry_due (running : (s.tier t).leaseRunning = true) (last : (s.tier t).lease = 1) :
    s.leaseExpiry t = ((s.setTier t { s.tier t with lease := 0 }).expire t).settle := by
  simp [State.leaseExpiry, running, last]

theorem State.lowerLeases_eq (s : State) : s.lowerLeases =
    { s with
      tiers := Vector.ofFn fun t =>
        if (s.tier t).leaseRunning = true then { s.tier t with lease := (s.tier t).lease - 1 } else s.tier t } := by
  refine congrArg (fun tiers => { s with tiers := tiers }) (State.ext_tiers fun t => (s.lowerLeases_tier t).trans ?_)
  simp [Tier.tick]

/-- Every running countdown but the one of tier `t` is lowered by 1. -/
def State.lowerOthers (s : State) (t : TierNo) : State :=
  { s with
    tiers := Vector.ofFn fun u =>
      if u ≠ t ∧ (s.tier u).leaseRunning = true then { s.tier u with lease := (s.tier u).lease - 1 } else s.tier u }

theorem State.lowerOthers_tier (s : State) (t u : TierNo) : (s.lowerOthers t).tier u =
    if u ≠ t ∧ (s.tier u).leaseRunning = true then { s.tier u with lease := (s.tier u).lease - 1 } else s.tier u := by
  simp [State.lowerOthers, State.tier]

@[simp] theorem State.lowerOthers_resetHeld (s : State) (t : TierNo) : (s.lowerOthers t).resetHeld = s.resetHeld := by
  unfold State.lowerOthers
  rfl

@[simp] theorem State.lowerOthers_tier_self (s : State) (t : TierNo) : (s.lowerOthers t).tier t = s.tier t := by
  simp [State.lowerOthers_tier]

theorem State.lowerLeases_eq_lowerOthers (running : (s.tier t).leaseRunning = true) (last : (s.tier t).lease = 1) :
    s.lowerLeases = (s.lowerOthers t).setTier t { s.tier t with lease := 0 } := by
  have tiers : s.lowerLeases.tiers = ((s.lowerOthers t).setTier t { s.tier t with lease := 0 }).tiers := by
    refine State.ext_tiers fun u => (s.lowerLeases_tier u).trans (Eq.trans ?_ ((s.lowerOthers t).setTier_tier t u _).symm)
    by_cases here : t = u
    · subst here
      simp [Tier.tick, running, last]
    · simp [State.lowerOthers_tier, here, Ne.symm here, Tier.tick]
  revert tiers
  simp only [State.lowerLeases, State.setTier, State.lowerOthers]
  exact fun tiers => by rw [tiers]

end Ticks

/-- Settles O5: where no countdown reaches 0 none of the tick's turns finds an expiry, where one does its own turn alone. -/
theorem tickLowersRunningCountdowns : Obligations.TickLowersRunningCountdowns := by
  refine ⟨fun order s high none => ?_, fun order s t high running last only => ?_⟩
  · rw [exec_tick order high, State.tickAll_none order none, State.lowerLeases_eq]
  · change _ = exec (.leaseExpiry t) (s.lowerOthers t)
    rw [exec_tick order high, State.tickAll_one order running last only, exec_leaseExpiry t (by simp [high]),
      State.leaseExpiry_due (by simp [running]) (by simp [last]), State.lowerOthers_tier_self,
      State.lowerLeases_eq_lowerOthers running last]

end Sys2Proof.Machine
end

section
/-! SUPPORT. The expiry of a lease whose claim is active, item by item (R114, R127 to R129). -/

namespace Sys2Proof.Machine

/-! ### What no hard fault touches -/

/-- The state beside tiers, claim table, mailboxes, PERMIT lines, scan and Fault Capture. -/
def State.surroundings (s : State) :=
  (s.resetHeld, s.stopnLow, s.mode, s.globals, s.ceilings, s.holds, s.hyd, s.slew, s.links, s.cursor, s.flags, s.enables,
    s.attn, s.pending)

theorem State.eq_of_surroundings {s u : State} (same : u.surroundings = s.surroundings) : u =
    { s with
      tiers := u.tiers, records := u.records, mailboxes := u.mailboxes, permit := u.permit, capture := u.capture
      second := u.second, waitList := u.waitList, scan := u.scan } := by
  cases s
  cases u
  simp only [State.surroundings, State.links, Prod.mk.injEq, Links.mk.injEq] at same
  simp only [same]

/-- What a scan request makes of the scan depends on mode, wait list and scan (R64). -/
theorem State.rescan_scan_congr {s u : State} (mode : u.mode = s.mode) (waitList : u.waitList = s.waitList)
    (scan : u.scan = s.scan) : u.rescan.scan = s.rescan.scan := by
  rw [State.rescan_eq, State.rescan_eq, mode, waitList, scan]

/-! ### Fault Capture (R135) -/

theorem latched_hard {r q : FaultRecord} {held : Option FaultRecord} (found : held = some r) (hard : r.kind.isHard = true) :
    latched held q = some r := by
  simp [latched, found, hard]

theorem latched_first_hard {q : FaultRecord} {held : Option FaultRecord} (hard : q.kind.isHard = true)
    (soft : ∀ r, held = some r → r.kind.isHard = false) : latched held q = some q := by
  cases held with
  | none => rfl
  | some r => simp [latched, soft r rfl, hard]

theorem latchedSecond_hard {r q : FaultRecord} {held : Option FaultRecord} (second : Bool) (found : held = some r)
    (hard : r.kind.isHard = true) (next : q.kind.isHard = true) : latchedSecond held second q = true := by
  simp [latchedSecond, found, hard, next]

theorem latchedSecond_soft {q : FaultRecord} {held : Option FaultRecord} (second : Bool)
    (soft : ∀ r, held = some r → r.kind.isHard = false) : latchedSecond held second q = second := by
  cases held with
  | none => rfl
  | some r => simp [latchedSecond, soft r rfl]

/-! ### The expiry of an active claim -/

/-- An enabled, placed tier without a fault kind, whose head claim, in record `i`, is GRANTED or STOPPING. -/
structure State.RunsClaim (s : State) (t : TierNo) (i : RecNo) (c : Claim) (g : Grant) : Prop where
  unique : s.HandlesUnique
  sound : (s.tier t).fault = none
  enabled : (s.tier t).cfg.enabled = true
  placed : (s.tier t).placed = true
  claim : s.Holds i c
  own : c.handle.tier = t
  head : (s.tier t).legs.head? = some c.handle.slot
  phase : c.phase = .granted g ∨ c.phase = .stopping g

/-- The expiry of a lease at its last tick, with that tick's count (R114, assumption log 4). -/
def State.expiry (s : State) (t : TierNo) : State :=
  (s.setTier t { s.tier t with lease := 0 }).expire t

/-- The countdown is down and the expiry is reported, its hard-fault event still to come (R114). -/
def State.reportsLease (s : State) (t : TierNo) (slot : SlotNo) : State :=
  (s.setTier t { s.tier t with lease := 0 }).raise (.tier .lease) (some t) (some slot) (some (s.tier t).tracked)

/-- The part after the freeze of the expiry. -/
def State.expiryFrozen (s : State) (t : TierNo) (i : RecNo) (c : Claim) (g : Grant) : State :=
  (s.reportsLease t c.handle.slot).frozenBy t .lease i c g

/-- The part after the freeze, the retirements and the hazard stop of the expiry. -/
def State.expiryCleared (s : State) (t : TierNo) (i : RecNo) (c : Claim) (g : Grant) : State :=
  (s.expiryFrozen t i c g).clearAround t (hazardArc s.globals.stopMargin g.arc)

section Expiry
variable {s : State} {t : TierNo} {i j : RecNo} {c d : Claim} {g : Grant}

@[simp] theorem State.reportsLease_record (s : State) (t : TierNo) (slot : SlotNo) (j : RecNo) :
    (s.reportsLease t slot).record j = s.record j := by
  simp [State.reportsLease]

theorem State.reportsLease_holds {slot : SlotNo} {j : RecNo} {d : Claim} :
    (s.reportsLease t slot).Holds j d ↔ s.Holds j d := by
  rw [State.Holds, State.reportsLease_record, State.Holds]

theorem State.reportsLease_tier_self (s : State) (t : TierNo) (slot : SlotNo) :
    (s.reportsLease t slot).tier t = { s.tier t with lease := 0 } := by
  simp [State.reportsLease]

theorem State.expiryFrozen_scan (s : State) (t : TierNo) (i : RecNo) (c : Claim) (g : Grant) :
    (s.expiryFrozen t i c g).mode = s.mode ∧ (s.expiryFrozen t i c g).waitList = s.waitList ∧
      (s.expiryFrozen t i c g).scan = s.scan := by
  simp [State.expiryFrozen, State.frozenBy, State.reportsLease]

section RunsClaim
variable (h : s.RunsClaim t i c g)
include h

theorem State.RunsClaim.active : c.phase ≠ .waiting := by
  rcases h.phase with e | e <;> simp [e]

theorem State.RunsClaim.headClaim : s.headClaim t = some (i, c) := by
  obtain rfl := h.own
  obtain ⟨l, legs⟩ := List.head?_eq_some_iff.mp h.head
  simp only [State.headClaim, legs]
  exact h.unique.claimAt_iff.mpr ⟨h.claim, rfl⟩

/-- The expiry is its hard-fault event, its scan request and the stop of the lease (R114, R127). -/
theorem State.RunsClaim.expiry_eq : s.expiry t =
    (if s.anyClaim (Claim.waitsAt t) then (s.expiryCleared t i c g).rescan else s.expiryCleared t i c g).stopLease t := by
  have found := h.headClaim
  have lowered : (s.setTier t { s.tier t with lease := 0 }).headClaim t = some (i, c) :=
    (State.headClaim_congr (s := s) (u := s.setTier t _) (by rw [State.setTier_tier_self]) rfl).trans found
  have reported : (s.reportsLease t c.handle.slot).headClaim t = some (i, c) :=
    (State.headClaim_congr (by rw [State.reportsLease_tier_self]) (by simp [State.reportsLease])).trans found
  have self := s.reportsLease_tier_self t c.handle.slot
  have event := State.hardFaultEvent_active (k := .lease) reported h.phase (by rw [self]; exact h.enabled)
    (by rw [self]; exact h.placed)
  have globals : (s.reportsLease t c.handle.slot).globals = s.globals := by simp [State.reportsLease]
  rw [globals, State.anyClaim_congr (s := s) fun j => by rw [State.reportsLease_record]] at event
  rw [State.expiry, State.expire, State.activeSlot, State.activeClaim_of_head lowered h.active, State.setTier_tier_self,
    State.hardFault_first _ _ _ (by rw [State.setTier_tier_self]; exact h.sound)]
  exact congrArg (State.stopLease · t) event

theorem State.RunsClaim.expiry_record (j : RecNo) : (s.expiry t).record j = (s.expiryCleared t i c g).record j := by
  rw [h.expiry_eq]
  split_ifs <;> simp

theorem State.RunsClaim.expiry_mailbox (b : Handle) :
    (s.expiry t).mailbox b = (s.expiryCleared t i c g).mailbox b := by
  rw [h.expiry_eq]
  split_ifs <;> simp

theorem State.RunsClaim.expiry_permitLine (v : TierNo) :
    (s.expiry t).permitLine v = (s.expiryCleared t i c g).permitLine v := by
  rw [h.expiry_eq]
  split_ifs <;> simp

theorem State.RunsClaim.expiry_surroundings : (s.expiry t).surroundings = s.surroundings := by
  have cleared : (s.expiryCleared t i c g).surroundings = s.surroundings := by
    simp [State.surroundings, State.links, State.expiryCleared, State.clearAround, State.expiryFrozen, State.frozenBy,
      State.reportsLease]
  rw [h.expiry_eq, ← cleared]
  split_ifs <;> simp [State.surroundings, State.links]

theorem State.RunsClaim.expiry_latch :
    (s.expiry t).capture =
        latched s.capture ⟨.tier .lease, some t, some c.handle.slot, some (s.tier t).tracked, s.mode⟩ ∧
      (s.expiry t).second =
        latchedSecond s.capture s.second ⟨.tier .lease, some t, some c.handle.slot, some (s.tier t).tracked, s.mode⟩ := by
  have cleared : (s.expiry t).capture = (s.reportsLease t c.handle.slot).capture ∧
      (s.expiry t).second = (s.reportsLease t c.handle.slot).second := by
    rw [h.expiry_eq]
    split_ifs <;> simp [State.expiryCleared, State.clearAround, State.expiryFrozen, State.frozenBy]
  rwa [State.reportsLease, State.raise_eq] at cleared

theorem State.RunsClaim.frozen_any_waiting (f : Claim → Bool) (j : RecNo) :
    ((s.expiryFrozen t i c g).record j).any (fun d => d.isWaiting && f d) =
      (s.record j).any fun d => d.isWaiting && f d := by
  rw [← s.reportsLease_record t c.handle.slot j]
  exact State.frozenBy_any_waiting (State.reportsLease_holds.mpr h.claim) h.active f j

/-- The expiry leaves of the wait list what does not retire, and of the scan what a request makes of it (R52, R64). -/
theorem State.RunsClaim.expiry_scan :
    let left : State :=
      { s with
        waitList := s.waitList.filter fun j => !(s.record j).any (Claim.waitsAt t)
        scan := { s.scan with marks := Vector.ofFn fun j => s.marked j && !(s.record j).any (Claim.waitsAt t) } }
    (s.expiry t).waitList = left.waitList ∧
      (s.expiry t).scan = if s.anyClaim (Claim.waitsAt t) then left.rescan.scan else s.scan := by
  intro left
  have waits (j : RecNo) : ((s.expiryFrozen t i c g).record j).any (Claim.waitsAt t) =
      (s.record j).any (Claim.waitsAt t) := h.frozen_any_waiting _ j
  obtain ⟨frozen_mode, frozen_waitList, frozen_scan⟩ := s.expiryFrozen_scan t i c g
  have mode : (s.expiryCleared t i c g).mode = left.mode := by
    rw [State.expiryCleared, State.clearAround_eq, frozen_mode]
  have waitList : (s.expiryCleared t i c g).waitList = left.waitList := by
    rw [State.expiryCleared, State.clearAround_eq]
    simp only [waits, frozen_waitList, left]
  have scan : (s.expiryCleared t i c g).scan = left.scan := by
    rw [State.expiryCleared, State.clearAround_eq]
    simp only [waits, State.marked, frozen_scan, left]
  rw [h.expiry_eq]
  split_ifs with retires
  · exact ⟨by simp [waitList], by simpa using State.rescan_scan_congr mode waitList scan⟩
  · refine ⟨by simp [waitList], ?_⟩
    rw [State.stopLease_scan, State.expiryCleared, State.clearAround_scan_idle]
    · exact frozen_scan
    · rw [State.anyClaim_congr waits]
      exact Bool.eq_false_iff.mpr retires

/-! The tier records after the expiry. -/

theorem State.RunsClaim.expiry_tier_self : (s.expiry t).tier t =
    { s.tier t with
      fault := some .lease, lease := 0, leaseRunning := false,
      legs := (s.tier t).legs.filter fun k => !s.anyClaim fun d => d.isWaiting && d.handle == ⟨t, k⟩ } := by
  have cleared : (s.expiry t).tier t = { (s.expiryCleared t i c g).tier t with lease := 0, leaseRunning := false } := by
    rw [h.expiry_eq]
    split_ifs <;> simp [State.stopLease_tier]
  have waits (k : SlotNo) : (s.expiryFrozen t i c g).anyClaim (fun d => d.isWaiting && d.handle == ⟨t, k⟩) =
      s.anyClaim fun d => d.isWaiting && d.handle == ⟨t, k⟩ := State.anyClaim_congr (h.frozen_any_waiting _)
  rw [cleared, State.expiryCleared, State.clearAround_tier_self]
  simp only [waits]
  rw [State.expiryFrozen, State.frozenBy_tier_self _ _ _ _ _ h.own, State.reportsLease_tier_self]

omit h in
theorem State.expiry_tier_of_ne (s : State) {t v : TierNo} (other : v ≠ t) : (s.expiry t).tier v = s.tier v := by
  rw [State.expiry, State.expire_tier_of_ne _ other, State.setTier_tier_of_ne _ _ (Ne.symm other)]

/-! The claims after the freeze. -/

theorem State.RunsClaim.frozen_unique : (s.expiryFrozen t i c g).HandlesUnique :=
  State.frozenBy_unique (State.reportsLease_holds.mpr h.claim) fun j l d e hd he =>
    h.unique j l d e (State.reportsLease_holds.mp hd) (State.reportsLease_holds.mp he)

omit h in
theorem State.expiryFrozen_holds (other : j ≠ i) : (s.expiryFrozen t i c g).Holds j d ↔ s.Holds j d :=
  (State.frozenBy_holds other).trans State.reportsLease_holds

theorem State.RunsClaim.other_record (hd : s.Holds j d) (away : d.handle.tier ≠ t) : j ≠ i := by
  rintro rfl
  exact away (by rw [Option.some.inj (hd.symm.trans h.claim), h.own])

omit h in
theorem State.expiryFrozen_mailbox (s : State) (t : TierNo) (i : RecNo) {c : Claim} (g : Grant) {b : Handle}
    (other : c.handle ≠ b) : (s.expiryFrozen t i c g).mailbox b = s.mailbox b := by
  rw [State.expiryFrozen, State.frozenBy_mailbox, if_neg other]
  simp [State.reportsLease]

theorem State.RunsClaim.expiryFrozen_permitLine (v : TierNo) :
    (s.expiryFrozen t i c g).permitLine v = if v = t then false else s.permitLine v := by
  rw [State.expiryFrozen, State.frozenBy_permitLine, h.own]
  simp [State.reportsLease, eq_comm]

/-! The claims after the expiry. -/

/-- The active claim freezes with its grant; PERMIT is off (R48). -/
theorem State.RunsClaim.expiry_frozen : (s.expiry t).record i = some { c with phase := .frozen g } ∧
    (s.expiry t).mailbox c.handle = ⟨.frozen, .granted, true⟩ ∧ (s.expiry t).permitLine t = false := by
  obtain ⟨record, mailbox⟩ := State.clearAround_kept (t := t) (z := hazardArc s.globals.stopMargin g.arc) h.frozen_unique
    State.frozenBy_holds_self (Claim.waitsAt_active (c := { c with phase := .frozen g }) nofun t) rfl
  refine ⟨(h.expiry_record i).trans record, (h.expiry_mailbox c.handle).trans (mailbox.trans ?_), ?_⟩
  · exact (State.frozenBy_mailbox ..).trans (if_pos rfl)
  · rw [h.expiry_permitLine, State.expiryCleared, State.clearAround_permitLine, h.expiryFrozen_permitLine]
    simp

theorem State.RunsClaim.expiry_retired (hd : s.Holds j d) (own : d.handle.tier = t) (other : j ≠ i)
    (waiting : d.phase = .waiting) :
    (s.expiry t).record j = none ∧ (s.expiry t).mailbox d.handle = ⟨.free, .tierFault, true⟩ := by
  rw [h.expiry_record, h.expiry_mailbox]
  exact State.clearAround_waiting h.frozen_unique ((State.expiryFrozen_holds other).mpr hd) own waiting

theorem State.RunsClaim.expiry_stopped (hd : s.Holds j d) (away : d.handle.tier ≠ t)
    (under : d.grantedAnd (fun _ a => (hazardArc s.globals.stopMargin g.arc).overlaps a) = true) :
    (s.expiry t).record j = some d.stopped ∧ (s.expiry t).mailbox d.handle = ⟨.stopping, .granted, true⟩ ∧
      (s.expiry t).permitLine d.handle.tier = false := by
  rw [h.expiry_record, h.expiry_mailbox, h.expiry_permitLine]
  exact State.clearAround_stopped h.frozen_unique ((State.expiryFrozen_holds (h.other_record hd away)).mpr hd) away under

theorem State.RunsClaim.expiry_kept (hd : s.Holds j d) (away : d.handle.tier ≠ t)
    (clear : d.grantedAnd (fun _ a => (hazardArc s.globals.stopMargin g.arc).overlaps a) = false) :
    (s.expiry t).record j = some d ∧ (s.expiry t).mailbox d.handle = s.mailbox d.handle := by
  have another : c.handle ≠ d.handle := fun same => away (by rw [← same, h.own])
  rw [h.expiry_record, h.expiry_mailbox, ← s.expiryFrozen_mailbox t i g another]
  exact State.clearAround_kept h.frozen_unique ((State.expiryFrozen_holds (h.other_record hd away)).mpr hd)
    (by simp [Claim.waitsAt, away]) (by simp [Claim.grantedAnd_around, clear])

theorem State.RunsClaim.expiry_free (free : s.record j = none) : (s.expiry t).record j = none := by
  have other : i ≠ j := by
    rintro rfl
    exact absurd (free.symm.trans h.claim) nofun
  rw [h.expiry_record]
  refine State.clearAround_free _ _ _ ?_
  rw [State.expiryFrozen, State.frozenBy_record, if_neg other, State.reportsLease_record, free]

theorem State.RunsClaim.expiry_permitLine_clear {v : TierNo} (other : v ≠ t)
    (clear : ∀ j d, s.Holds j d → d.handle.tier = v →
      d.grantedAnd (fun _ a => (hazardArc s.globals.stopMargin g.arc).overlaps a) = false) :
    (s.expiry t).permitLine v = s.permitLine v := by
  rw [h.expiry_permitLine, State.expiryCleared, State.clearAround_permitLine_clear, h.expiryFrozen_permitLine,
    if_neg other]
  intro j d hd own
  by_cases here : j = i
  · subst here
    rw [← Option.some.inj (State.frozenBy_holds_self.symm.trans hd)]
    rfl
  · exact clear j d ((State.expiryFrozen_holds here).mp hd) own

theorem State.RunsClaim.expiry_mailbox_vacant {b : Handle} (vacant : ∀ j d, s.Holds j d → d.handle ≠ b) :
    (s.expiry t).mailbox b = s.mailbox b := by
  rw [h.expiry_mailbox, State.expiryCleared, State.clearAround_mailbox_vacant,
    State.expiryFrozen_mailbox _ _ _ _ (vacant i c h.claim)]
  intro j d hd
  obtain ⟨e, he, handle⟩ := State.frozenBy_handle (State.reportsLease_holds.mpr h.claim) hd
  exact handle ▸ vacant j e (State.reportsLease_holds.mp he)

end RunsClaim

end Expiry

/-- Settles O6: the expiry as its hard-fault event, read item by item. -/
theorem leaseExpiryFreezesRetiresStops : Obligations.LeaseExpiryFreezesRetiresStops := by
  intro s t i c g high unique running last sound enabled placed hc own head phase behind z retires left
  have h : s.RunsClaim t i c g := ⟨unique, sound, enabled, placed, hc, own, head, phase⟩
  obtain ⟨capture, second⟩ := h.expiry_latch
  obtain ⟨record, mailbox, permit⟩ := h.expiry_frozen
  have request : s.anyClaim (Claim.waitsAt t) = true ↔ ∃ j : RecNo, retires j = true := State.anyClaim_iff_any
  have waitList : (s.expiry t).waitList = left.waitList := h.expiry_scan.1
  have scan : (s.expiry t).scan = if ∃ j : RecNo, retires j = true then left.rescan.scan else s.scan :=
    h.expiry_scan.2.trans (if_congr request rfl rfl)
  refine ⟨s.expiry t, ?_, ?_, h.expiry_tier_self, fun v => s.expiry_tier_of_ne, record, mailbox, permit,
    fun j d hd tier other => h.expiry_retired hd tier other (behind j d hd tier other), fun j d => h.expiry_stopped,
    fun j d => h.expiry_kept, fun j => h.expiry_free, fun v => h.expiry_permitLine_clear,
    fun b => h.expiry_mailbox_vacant, fun r found hard => ⟨?_, ?_⟩, fun soft => ⟨?_, ?_⟩⟩
  · rw [exec_leaseExpiry t high, State.leaseExpiry_due running last]
    rfl
  · rw [← scan, ← waitList]
    exact State.eq_of_surroundings h.expiry_surroundings
  · rw [capture, latched_hard found hard]
  · rw [second, latchedSecond_hard _ found hard rfl]
  · rw [capture, latched_first_hard rfl soft]
  · rw [second, latchedSecond_soft _ soft]

end Sys2Proof.Machine
end

section
/-! SUPPORT. The REPORTs and RELEASEs that are supervised: hard faults, trims, retirements (R105 to R111, R116 to R119). -/

namespace Sys2Proof.Machine

/-! ### What the first steps leave -/

/-- The active claim of a tier depends on its leg queue and the records (R32). -/
theorem State.activeClaim_congr {s u : State} {t : TierNo} (legs : (u.tier t).legs = (s.tier t).legs)
    (records : u.records = s.records) : u.activeClaim t = s.activeClaim t := by
  rw [State.activeClaim, State.activeClaim, State.headClaim_congr legs records]

section Reported
variable (s : State) (t : TierNo) (seq raw : Nat) (p : Pose)

theorem State.reported_cfg : ((s.reported t seq raw p).tier t).cfg = (s.tier t).cfg := by
  rw [State.reported_tier, if_pos rfl]

theorem State.reported_activeClaim : (s.reported t seq raw p).activeClaim t = s.activeClaim t :=
  State.activeClaim_congr (by rw [State.reported_tier, if_pos rfl]) (by simp)

end Reported

/-- The reload of a countdown, as `State.withLeaseReloaded` writes it (R112). -/
theorem State.reloadLease_eq (s : State) (t : TierNo) : s.reloadLease t = s.withLeaseReloaded t := rfl

theorem State.withLeaseReloaded_tier_self (s : State) (t : TierNo) :
    (s.withLeaseReloaded t).tier t = { s.tier t with lease := s.globals.leasePeriod } :=
  s.setTier_tier_self t _

theorem State.released_tier_self (s : State) (h : Handle) (raw : Nat) (p : Pose) :
    (s.released h raw p).tier h.tier = { s.tier h.tier with tracked := p, havePose := true } :=
  s.setTier_tier_self h.tier _

@[simp] theorem State.released_globals (s : State) (h : Handle) (raw : Nat) (p : Pose) :
    (s.released h raw p).globals = s.globals := by
  unfold State.released
  dsimp only
  split_ifs <;> simp

/-! ### Supervision tests (R16, R18) -/

theorem rakeCheck_iff {g : Globals} {lo hi r : Nat} :
    rakeCheck g lo hi r = true ↔ lo - g.rakeTol ≤ r ∧ r ≤ min 450 (hi + g.rakeTol) := by
  simp only [rakeCheck, Bool.and_eq_true, decide_eq_true_eq]

theorem contained_iff {cfg : TierConfig} {g : Globals} {gr : Grant} {p : Pose} :
    contained cfg g gr p = true ↔ rakeCheck g gr.lo gr.hi p.rake = true ∧ positionCheck cfg g gr.arc p = true :=
  Bool.and_eq_true_iff

/-! ### Supervision of a REPORT (R106 to R108) -/

section Supervise
variable {s : State} {t : TierNo} {p : Pose} {moving : Bool} {i : RecNo} {c : Claim} {g : Grant}

/-- In RUN and HALT the REPORT of a placed tier is supervised (R105). -/
theorem State.handleReport_supervises (mode : s.mode ≠ .config) (placed : s.tierState t ≠ .unplaced) (drive : Bool) :
    s.handleReport t p moving drive = s.supervise t p moving drive :=
  if_neg (not_or.mpr ⟨mode, placed⟩)

theorem State.supervise_drive : s.supervise t p moving true = s.hardFault t .drive (s.activeSlot t) p := rfl

/-- A REPORT of an IDLE tier that moves, or stands off its rest position, is a creep (R107). -/
theorem State.supervise_creep (idle : s.tierState t = .idle)
    (creeps : moving = true ∨ s.globals.creepLimit < absDiff p.pos (s.tier t).rest.pos) :
    s.supervise t p moving false = s.hardFault t .creep none p := by
  have fails : (moving || !creepTest s.globals (s.tier t).rest.pos p.pos) = true := by simpa [creepTest] using creeps
  simp only [State.supervise, idle, State.superviseIdle, fails]
  rfl

/-- A REPORT of a MOVING or STOPPING tier is held against its active claim (R108). -/
theorem State.supervise_active (state : s.tierState t = .moving ∨ s.tierState t = .stopping)
    (found : s.activeClaim t = some (i, c)) (grant : c.grant? = some g) :
    s.supervise t p moving false = s.superviseMoving t i c g p moving := by
  rcases state with state | state <;> simp [State.supervise, state, found, grant]

theorem State.superviseMoving_envelope (rake : rakeCheck s.globals g.lo g.hi p.rake = false) :
    s.superviseMoving t i c g p moving =
      (s.withLeaseReloaded t).hardFault t .envelope (some c.handle.slot) p := by
  simp [State.superviseMoving, State.reloadLease_eq, rake]

theorem State.superviseMoving_contain (rake : rakeCheck s.globals g.lo g.hi p.rake = true)
    (position : positionCheck (s.tier t).cfg s.globals g.arc p = false) :
    s.superviseMoving t i c g p moving =
      (s.withLeaseReloaded t).hardFault t .contain (some c.handle.slot) p := by
  simp [State.superviseMoving, State.reloadLease_eq, rake, position]

theorem State.superviseMoving_contained (inside : contained (s.tier t).cfg s.globals g p = true) :
    s.superviseMoving t i c g p moving = (s.withLeaseReloaded t).containedReport i c p moving := by
  obtain ⟨rake, position⟩ := contained_iff.mp inside
  simp [State.superviseMoving, State.reloadLease_eq, rake, position]

/-! ### A contained REPORT (R109, R111) -/

theorem State.containedReport_granted (granted : c.phase = .granted g) :
    s.containedReport i c p moving = s.trimClaim i c g p.pos .granted := by
  simp only [State.containedReport, granted]

theorem State.containedReport_moving (stopping : c.phase = .stopping g) :
    s.containedReport i c p true = s.trimClaim i c g p.pos .stopping := by
  simp only [State.containedReport, stopping, if_true]

theorem State.containedReport_rest (stopping : c.phase = .stopping g) :
    s.containedReport i c p false = s.retireStopped i c.handle g p := by
  simp only [State.containedReport, stopping, Bool.false_eq_true, if_false]

/-- A trim, by whether it changes the arc (R109). -/
theorem State.trimClaim_eq (s : State) (i : RecNo) (c : Claim) (g : Grant) (n : Nat) (phase : Grant → Phase) :
    let a := trimmedArc (s.tier c.handle.tier).cfg s.globals c.motion g n
    s.trimClaim i c g n phase =
      if a = g.arc then s
      else { s with records := s.records.set i (some { c with phase := phase { g with arc := a } }) }.rescan := rfl

/-- A retirement STOPPED, each item it changes written out (R53). -/
theorem State.retireStopped_eq (s : State) (i : RecNo) (h : Handle) (g : Grant) (p : Pose) :
    s.retireStopped i h g p =
      (s.withEnded i h g .stopped p (footprint (s.tier h.tier).cfg s.globals p)).rescan := by
  rw [State.retireStopped, State.retireActive_eq]

/-- A retirement stops the lease, so a reload before it makes no difference (R53). -/
theorem State.withEnded_reloaded (s : State) (i : RecNo) (h : Handle) (g : Grant) (r : Result) (p : Pose) (a : Arc) :
    (s.withLeaseReloaded h.tier).withEnded i h g r p a = s.withEnded i h g r p a := by
  rw [State.withEnded, State.withLeaseReloaded_tier_self]
  simp [State.withEnded, State.withLeaseReloaded]

end Supervise

/-! ### REPORT -/

/-- A REPORT that is no duplicate, in RUN or HALT, of a placed tier: its first steps, then its supervision (R102 to R105). -/
theorem exec_report_supervised {s : State} {t : TierNo} {d : List Byte} {rest : List MpEntry}
    (due : s.EntryDue (.report t d) rest) (mode : s.mode ≠ .config) (placed : s.tierState t ≠ .unplaced)
    (fresh : ¬((s.tier t).haveSeq = true ∧ byteAt d 6 % 16 = (s.tier t).lastSeq)) :
    let p := reportedPose (s.tier t).cfg (word32At d 0) (word16At d 4)
    exec .report s = .next (({ s with mpFifo := rest }.reported t (byteAt d 6 % 16) (word16At d 4) p).supervise t p
      (byteAt d 6 / 16 % 2 == 1) (byteAt d 6 / 32 % 2 == 1)).settle := by
  intro p
  rw [exec_report_due due, State.arriveReport_fresh (s := { s with mpFifo := rest }) fresh,
    State.handleReport_supervises]
  · rfl
  · rw [State.reported_mode]
    exact mode
  · rw [State.reported_tierState]
    exact placed

/-- A REPORT of a MOVING or STOPPING tier with the drive-fault flag clear is held against the tier's active claim (R108). -/
theorem exec_report_moves {s : State} {t : TierNo} {d : List Byte} {rest : List MpEntry} {i : RecNo} {c : Claim} {g : Grant}
    (due : s.EntryDue (.report t d) rest) (mode : s.mode ≠ .config)
    (fresh : ¬((s.tier t).haveSeq = true ∧ byteAt d 6 % 16 = (s.tier t).lastSeq)) (sound : byteAt d 6 / 32 % 2 = 0)
    (moves : s.tierState t = .moving ∨ s.tierState t = .stopping) (found : s.activeClaim t = some (i, c))
    (grant : c.grant? = some g) :
    let p := reportedPose (s.tier t).cfg (word32At d 0) (word16At d 4)
    exec .report s = .next (({ s with mpFifo := rest }.reported t (byteAt d 6 % 16) (word16At d 4) p).superviseMoving t i c
      g p (byteAt d 6 / 16 % 2 == 1)).settle := by
  intro p
  have placed : s.tierState t ≠ .unplaced := by rcases moves with e | e <;> simp [e]
  rw [exec_report_supervised due mode placed fresh, sound]
  refine congrArg (Host.Outcome.next ·.settle) (State.supervise_active ?_ ?_ grant)
  · rw [State.reported_tierState]
    exact moves
  · rw [State.reported_activeClaim]
    exact found

/-- Settles O22: the drive-fault flag, then the tests of an IDLE tier, then those of the active claim in their order. -/
theorem reportRaisesHardFaults : Obligations.ReportRaisesHardFaults := by
  intro s t d rest due mode fresh p s'
  have cfg : (s'.tier t).cfg = (s.tier t).cfg := State.reported_cfg { s with mpFifo := rest } t _ _ p
  have globals : s'.globals = s.globals := State.reported_globals { s with mpFifo := rest } t _ _ p
  refine ⟨fun drive placed => ?_, fun sound idle creeps => ?_, fun i c g sound moves found grant =>
    ⟨fun outside => ?_, fun above below outside => ?_⟩⟩
  · have slot : s'.activeSlot t = s.activeSlot t :=
      congrArg _ (State.reported_activeClaim { s with mpFifo := rest } t _ _ p)
    rw [exec_report_supervised due mode placed fresh, drive, ← slot]
    exact congrArg (Host.Outcome.next ·.settle) State.supervise_drive
  · have state : s'.tierState t = s.tierState t := State.reported_tierState { s with mpFifo := rest } t _ _ p
    have at_rest : (s'.tier t).rest = (s.tier t).rest := State.reported_rest { s with mpFifo := rest } t _ _ p
    rw [exec_report_supervised due mode (by simp [idle]) fresh, sound]
    refine congrArg (Host.Outcome.next ·.settle) (State.supervise_creep (state.trans idle) ?_)
    rw [at_rest, globals, beq_iff_eq]
    exact creeps
  · have rake : rakeCheck s'.globals g.lo g.hi p.rake = false := by
      rw [globals, ← Bool.not_eq_true, rakeCheck_iff]
      exact fun inside => outside.elim (Nat.not_lt.mpr inside.1) (Nat.not_lt.mpr inside.2)
    rw [exec_report_moves due mode fresh sound moves found grant, State.superviseMoving_envelope rake]
  · have rake : rakeCheck s'.globals g.lo g.hi p.rake = true := by
      rw [globals, rakeCheck_iff]
      exact ⟨above, below⟩
    have position : positionCheck (s'.tier t).cfg s'.globals g.arc p = false := by
      rw [cfg, globals]
      exact outside
    rw [exec_report_moves due mode fresh sound moves found grant, State.superviseMoving_contain rake position]

/-- A contained REPORT reloads the lease and goes to its claim (R108). -/
theorem exec_report_contained {s : State} {t : TierNo} {d : List Byte} {rest : List MpEntry} {i : RecNo} {c : Claim}
    {g : Grant} (due : s.EntryDue (.report t d) rest) (mode : s.mode ≠ .config)
    (fresh : ¬((s.tier t).haveSeq = true ∧ byteAt d 6 % 16 = (s.tier t).lastSeq)) (sound : byteAt d 6 / 32 % 2 = 0)
    (moves : s.tierState t = .moving ∨ s.tierState t = .stopping) (found : s.activeClaim t = some (i, c))
    (grant : c.grant? = some g) :
    let p := reportedPose (s.tier t).cfg (word32At d 0) (word16At d 4)
    contained (s.tier t).cfg s.globals g p = true → exec .report s = .next
      ((({ s with mpFifo := rest }.reported t (byteAt d 6 % 16) (word16At d 4) p).withLeaseReloaded t).containedReport i c p
        (byteAt d 6 / 16 % 2 == 1)).settle := by
  intro p inside
  rw [exec_report_moves due mode fresh sound moves found grant, State.superviseMoving_contained]
  rw [State.reported_cfg, State.reported_globals]
  exact inside

/-- A trim reads configuration and globals, which neither the first steps of a REPORT nor the reload of the lease write. -/
theorem State.reloaded_cfg (s : State) (t : TierNo) (seq raw : Nat) (p : Pose) :
    (((s.reported t seq raw p).withLeaseReloaded t).tier t).cfg = (s.tier t).cfg := by
  rw [State.withLeaseReloaded_tier_self, State.reported_cfg]

/-- Settles O23: a contained REPORT of a claim that is not at rest in STOPPING goes to the trim. -/
theorem containedReportReloadsLeaseAndTrims : Obligations.ContainedReportReloadsLeaseAndTrims := by
  intro s t d rest i c g due mode fresh sound moves found own phase p inside s' a
  subst own
  have grant : c.grant? = some g := by rcases phase with e | ⟨e, -⟩ <;> simp [Claim.grant?, e]
  have arc : trimmedArc (s'.tier c.handle.tier).cfg s'.globals c.motion g p.pos = a := by
    have cfg : (s'.tier c.handle.tier).cfg = (s.tier c.handle.tier).cfg :=
      State.reloaded_cfg { s with mpFifo := rest } _ _ _ p
    have globals : s'.globals = s.globals := State.reported_globals { s with mpFifo := rest } _ _ _ p
    rw [cfg, globals]
  have records : s'.records = s.records := State.reported_records { s with mpFifo := rest } _ _ _ p
  have trims (ph : Grant → Phase) : s'.trimClaim i c g p.pos ph = if a = g.arc then s'
      else { s' with records := s.records.set i (some { c with phase := ph { g with arc := a } }) }.rescan :=
    arc ▸ records ▸ s'.trimClaim_eq i c g p.pos ph
  have report := exec_report_contained due mode fresh sound moves found grant inside
  have granted (e : c.phase = .granted g) : exec .report s = .next (s'.trimClaim i c g p.pos .granted).settle := by
    rw [report, State.containedReport_granted e]
  have stopping (e : c.phase = .stopping g) : exec .report s = .next (s'.trimClaim i c g p.pos .stopping).settle := by
    have moving : byteAt d 6 / 16 % 2 = 1 := by simpa [e] using phase
    rw [report, moving]
    exact congrArg (Host.Outcome.next ·.settle) (State.containedReport_moving e)
  refine ⟨fun same => ?_, fun changed e => ?_, fun changed e => ?_⟩
  · rcases phase with e | ⟨e, -⟩
    · rw [granted e, trims, if_pos same]
    · rw [stopping e, trims, if_pos same]
  · rw [granted e, trims, if_neg changed]
  · rw [stopping e, trims, if_neg changed]

/-- Settles O24: at rest a contained REPORT of a STOPPING claim goes to the retirement. -/
theorem containedReportAtRestRetiresStopped : Obligations.ContainedReportAtRestRetiresStopped := by
  intro s t d rest i c g due mode fresh sound still stops found own stopping p inside
  subst own
  have grant : c.grant? = some g := by simp [Claim.grant?, stopping]
  rw [exec_report_contained due mode fresh sound (.inr stops) found grant inside, still]
  refine congrArg (Host.Outcome.next ·.settle) ((State.containedReport_rest stopping).trans ?_)
  rw [State.retireStopped_eq, State.withEnded_reloaded, State.reloaded_cfg]
  exact congrArg (fun g => State.rescan (State.withEnded _ i _ _ _ p (footprint _ g p)))
    (State.reported_globals { s with mpFifo := rest } _ _ _ p)

/-! ### RELEASE -/

section Release
variable {s : State} {h : Handle} {d : List Byte} {i : RecNo} {c : Claim} {g : Grant}

theorem State.arriveRelease_elsewhere (elsewhere : (s.tier h.tier).legs.head? ≠ some h.slot) :
    s.arriveRelease h d = (s.raise .protocol (some h.tier) (some h.slot) none).settle :=
  if_neg elsewhere

variable (head : (s.tier h.tier).legs.head? = some h.slot) (found : s.claimAt h = some (i, c))
include head found

theorem State.arriveRelease_waiting (waiting : c.phase = .waiting) :
    s.arriveRelease h d = (s.raise .protocol (some h.tier) (some h.slot) none).settle := by
  simp only [State.arriveRelease, head, found, waiting, if_true]

/-- A RELEASE of a FROZEN claim is too late (R119). -/
theorem State.arriveRelease_frozen (frozen : c.phase = .frozen g) : s.arriveRelease h d = s.repend h := by
  simp only [State.arriveRelease, head, found, frozen, if_true]

theorem State.arriveRelease_granted (granted : c.phase = .granted g) :
    s.arriveRelease h d = s.releaseChecked c g d fun s p => s.releaseGranted i c g p := by
  simp only [State.arriveRelease, head, found, granted, if_true]

theorem State.arriveRelease_stopping (stopping : c.phase = .stopping g) :
    s.arriveRelease h d = s.releaseChecked c g d fun s p => s.retireStopped i c.handle g p := by
  simp only [State.arriveRelease, head, found, stopping, if_true]

end Release

section Checked
variable {s : State} {d : List Byte} {i : RecNo} {c : Claim} {g : Grant} {p : Pose}

/-- A RELEASE of an active claim passes clamp and tracking; what is contained goes on, what is not raises CONTAIN (R117). -/
theorem State.releaseChecked_eq (s : State) (c : Claim) (g : Grant) (d : List Byte) (done : State → Pose → State) :
    let p := reportedPose (s.tier c.handle.tier).cfg (word32At d 0) (word16At d 4)
    let s' := s.released c.handle (word16At d 4) p
    s.releaseChecked c g d done =
      if contained (s.tier c.handle.tier).cfg s.globals g p = true then (done s' p).settle
      else (s'.hardFault c.handle.tier .contain (some c.handle.slot) p).settle := by
  intro p s'
  rw [← show _ = s' from s.released_eq c.handle (word16At d 4) p]
  rfl

theorem State.releaseGranted_arrived (arrived : arrivalTests s.globals c.motion p = true) :
    s.releaseGranted i c g p =
      (s.withEnded i c.handle g .arrived p (footprint (s.tier c.handle.tier).cfg s.globals p)).rescan := by
  simp only [State.releaseGranted, arrived, if_true, State.retireActive_eq]

theorem State.releaseGranted_short (short : ¬arrivalTests s.globals c.motion p = true) :
    s.releaseGranted i c g p =
      ((s.raise .shortArrival (some c.handle.tier) (some c.handle.slot) (some p)).withEnded i c.handle g .short p
        (footprint (s.tier c.handle.tier).cfg s.globals p)).rescan := by
  simp only [State.releaseGranted, if_neg short, State.retireActive_eq]

end Checked

/-- The arrival tests by the claim's kind (R18). -/
theorem arrivalTests_iff (g : Globals) (m : Motion) (p : Pose) : arrivalTests g m p = true ↔
    match m with
    | .slew _ target => absDiff p.pos target ≤ g.arrivalTol
    | .rake target => absDiff p.rake target ≤ g.rakeTol
    | .both _ target targetRake => absDiff p.pos target ≤ g.arrivalTol ∧ absDiff p.rake targetRake ≤ g.rakeTol := by
  cases m <;> simp [arrivalTests, arrivalPosition, arrivalRake]

/-- Settles O25: the contained release of a GRANTED claim, by the arrival tests of its kind. -/
theorem releaseOfGrantedClaimRetiresIt : Obligations.ReleaseOfGrantedClaimRetiresIt := by
  intro s h d rest i c g due head found own granted p inside s' a arrived
  subst own
  have tests : arrived ↔ arrivalTests s'.globals c.motion p = true := by
    rw [State.released_globals]
    exact (arrivalTests_iff s.globals c.motion p).symm
  have landed : footprint (s'.tier c.handle.tier).cfg s'.globals p = a := by
    rw [State.released_tier_self, State.released_globals]
    rfl
  have release : exec .release s = .next (s'.releaseGranted i c g p).settle := by
    rw [exec_release_due due, State.arriveRelease_granted (s := { s with mpFifo := rest }) head found granted,
      State.releaseChecked_eq]
    exact congrArg Host.Outcome.next (if_pos inside)
  refine ⟨fun passes => ?_, fun fails => ?_⟩
  · rw [release, State.releaseGranted_arrived (tests.mp passes), landed]
  · rw [release, State.releaseGranted_short (fails ∘ tests.mpr), landed]

/-- Settles O26: the head of the leg queue, then the phases of the claim bound to the handle. -/
theorem releaseOtherwiseByHandle : Obligations.ReleaseOtherwiseByHandle := by
  intro s h d rest due p s0 s' ignored
  rw [exec_release_due due]
  refine ⟨fun elsewhere => ?_, fun head i c found own => ?_⟩
  · exact congrArg _ (State.arriveRelease_elsewhere (s := s0) elsewhere)
  subst own
  refine ⟨fun waiting => ?_, fun g frozen => ?_, fun g stopping inside => ?_, fun g active outside => ?_⟩
  · exact congrArg _ (State.arriveRelease_waiting (s := s0) head found waiting)
  · exact congrArg _ (State.arriveRelease_frozen (s := s0) head found frozen)
  · have landed : footprint (s'.tier c.handle.tier).cfg s'.globals p = footprint (s.tier c.handle.tier).cfg s.globals p := by
      rw [State.released_tier_self, State.released_globals]
      rfl
    rw [State.arriveRelease_stopping (s := s0) head found stopping, State.releaseChecked_eq]
    refine congrArg _ ((if_pos inside).trans ?_)
    rw [State.retireStopped_eq]
    exact congrArg (fun a => (s'.withEnded i c.handle g .stopped p a).rescan.settle) landed
  · have contain (done : State → Pose → State) : s0.releaseChecked c g d done =
        (s'.hardFault c.handle.tier .contain (some c.handle.slot) p).settle := by
      rw [State.releaseChecked_eq]
      exact if_neg (Bool.eq_false_iff.mp outside)
    rcases active with granted | stopping
    · rw [State.arriveRelease_granted (s := s0) head found granted, contain]
    · rw [State.arriveRelease_stopping (s := s0) head found stopping, contain]

end Sys2Proof.Machine
end

section
/-! SUPPORT. The Fault Capture: its latching rule, READ_FAULT and CLEAR_FAULT (R135 to R138). -/

namespace Sys2Proof.Machine

/-! ### The latching rule (R130, R135) -/

section Latching
variable {s : State} {r : FaultRecord} (k : FaultKind) (t : Option TierNo) (slot : Option SlotNo) (pose : Option Pose)

theorem State.raise_empty (empty : s.capture = none) :
    s.raise k t slot pose = { s with capture := some ⟨k, t, slot, pose, s.mode⟩ } := by
  simp only [State.raise, empty]

theorem State.raise_over_soft (held : s.capture = some r) (soft : r.kind.isHard = false) : s.raise k t slot pose =
    if k.isHard then { s with capture := some ⟨k, t, slot, pose, s.mode⟩ } else s := by
  simp only [State.raise, held, soft, Bool.false_eq_true, if_false]

theorem State.raise_over_hard (held : s.capture = some r) (hard : r.kind.isHard = true) : s.raise k t slot pose =
    if k.isHard then { s with second := true } else s := by
  simp only [State.raise, held, hard, if_true]

end Latching

/-- Settles O7: the record held is absent, soft or hard; a tier with a fault kind has no further hard-fault event. -/
theorem faultCaptureLatchesFirstHardFault : Obligations.FaultCaptureLatchesFirstHardFault := by
  refine ⟨fun s k t slot pose => ⟨State.raise_empty k t slot pose, fun r held soft warning => ?_,
    fun r held soft hard => ?_, fun r held hard warning => ?_, fun r held hard again => ?_⟩,
    fun s t k k' slot p faulted => State.hardFault_again k slot p faulted⟩
  · rw [State.raise_over_soft k t slot pose held soft, warning]
    rfl
  · rw [State.raise_over_soft k t slot pose held soft, if_pos hard]
  · rw [State.raise_over_hard k t slot pose held hard, warning]
    rfl
  · rw [State.raise_over_hard k t slot pose held hard, if_pos again]

/-! ### READ_FAULT and CLEAR_FAULT (R137, R138) -/

/-- Settles O32: both commands answer the bytes of the record held; of an absent tier, slot or pose the bytes are 0. -/
theorem readAndClearFaultReportTheCapture : Obligations.ReadAndClearFaultReportTheCapture := by
  intro s e rest record
  have bytes : faultBytes s.capture s.second = record := by
    cases held : s.capture with
    | none => simp only [faultBytes, record, held]
    | some r =>
      obtain ⟨kind, tier, slot, pose, mode⟩ := r
      simp only [faultBytes, record, held]
      cases tier <;> cases slot <;> cases pose <;> rfl
  refine ⟨fun due => ?_, fun due => ?_⟩
  · rw [exec_readFault due, ← bytes, ← State.afterCommand_of]
    rfl
  · rw [exec_clearFault due, ← bytes, ← State.afterCommand_of]
    rfl

end Sys2Proof.Machine
end

section
/-! SUPPORT. A hard fault held by the Fault Capture stays, with SECOND once set, at every event but CLEAR_FAULT, SOFT_RESET and
those of RESETN (R135). -/

namespace Sys2Proof.Machine

/-! ### The Fault Capture, and the operations that leave it -/

/-- What the Fault Capture holds (R134). -/
def State.latch (s : State) : Option FaultRecord × Bool :=
  (s.capture, s.second)

/-- The Fault Capture holds this hard fault, with SECOND set if it is to be. -/
structure State.HoldsFault (s : State) (r : FaultRecord) (second : Bool) : Prop where
  hard : r.kind.isHard = true
  capture : s.capture = some r
  second : second = true → s.second = true

section Frames
variable (s : State)

@[simp] theorem State.setTier_latch (t : TierNo) (r : Tier) : (s.setTier t r).latch = s.latch := rfl
@[simp] theorem State.repend_latch (h : Handle) : (s.repend h).latch = s.latch := rfl
@[simp] theorem State.unmark_latch (i : RecNo) : (s.unmark i).latch = s.latch := rfl
@[simp] theorem State.unbind_latch (i : RecNo) (h : Handle) (r : Result) : (s.unbind i h r).latch = s.latch := rfl
@[simp] theorem State.stopLease_latch (t : TierNo) : (s.stopLease t).latch = s.latch := rfl
@[simp] theorem State.lowerLeases_latch : s.lowerLeases.latch = s.latch := rfl
@[simp] theorem State.clearFaultKind_latch (t : TierNo) : (s.clearFaultKind t).latch = s.latch := rfl
@[simp] theorem State.placeAt_latch (t : TierNo) (p : Pose) (a : Arc) : (s.placeAt t p a).latch = s.latch := rfl
@[simp] theorem State.setPermit_latch (t : TierNo) (b : Bool) : (s.setPermit t b).latch = s.latch := rfl
@[simp] theorem State.returnPools_latch (g : Grant) : (s.returnPools g).latch = s.latch := rfl
@[simp] theorem State.retireActive_latch (i : RecNo) (h : Handle) (g : Grant) (r : Result) (p : Pose) (a : Arc) :
    (s.retireActive i h g r p a).latch = s.latch := by simp [State.retireActive]
@[simp] theorem State.grant_latch (i : RecNo) (c : Claim) (g : Grant) : (s.grant i c g).latch = s.latch := rfl
@[simp] theorem State.settle_latch : s.settle.latch = s.latch := rfl
@[simp] theorem State.requestScan_latch : s.requestScan.latch = s.latch := by rw [State.requestScan_eq]; rfl
@[simp] theorem State.closeScan_latch : s.closeScan.latch = s.latch := by rw [State.closeScan_eq]; rfl
@[simp] theorem State.rescan_latch : s.rescan.latch = s.latch := by rw [State.rescan_eq]; rfl
@[simp] theorem State.retireStopped_latch (i : RecNo) (h : Handle) (g : Grant) (p : Pose) :
    (s.retireStopped i h g p).latch = s.latch := by simp [State.retireStopped]

@[simp] theorem State.stopWhere_latch (p : Handle → Arc → Bool) : (s.stopWhere p).latch = s.latch := by
  simp [State.stopWhere_eq, State.latch]

@[simp] theorem State.retireWaitingWhere_latch (p : Claim → Bool) (r : Result) :
    (s.retireWaitingWhere p r).latch = s.latch := by
  simp [State.retireWaitingWhere_eq, State.latch]

@[simp] theorem State.retireWaiting_latch (i : RecNo) (r : Result) : (s.retireWaiting i r).latch = s.latch := by
  unfold State.retireWaiting
  split
  · rfl
  · split_ifs <;> rfl

@[simp] theorem State.stopRecord_latch (i : RecNo) : (s.stopRecord i).latch = s.latch := by
  unfold State.stopRecord
  split
  · rfl
  · split <;> rfl

@[simp] theorem State.freezeHead_latch (t : TierNo) : (s.freezeHead t).latch = s.latch := by
  unfold State.freezeHead
  split
  · rfl
  · split <;> rfl

@[simp] theorem State.hazardStopAround_latch (t : TierNo) (space : Option Arc) :
    (s.hazardStopAround t space).latch = s.latch := by
  cases space <;> simp [State.hazardStopAround, State.hazardStop]

/-- The tier hard-fault event reports nothing of its own (R127). -/
@[simp] theorem State.hardFaultEvent_latch (t : TierNo) (k : HardKind) : (s.hardFaultEvent t k).latch = s.latch := by
  unfold State.hardFaultEvent
  dsimp only
  split_ifs <;> simp

/-! ### Events and commands that leave it -/

theorem State.evaluate_latch (i : RecNo) (c : Claim) : (s.evaluate i c).latch = s.latch := by
  unfold State.evaluate State.decideClaim
  dsimp only
  split_ifs
  · simp
  · simp
  · rfl
  · rfl
  · simp

theorem State.visit_latch : s.visit.latch = s.latch := by
  have visitRecord (i : RecNo) : (s.visitRecord i).latch = s.latch := by
    unfold State.visitRecord
    split
    · rfl
    · split_ifs <;> simp [State.evaluate_latch]
  unfold State.visit
  split_ifs
  · rfl
  · rfl
  · split <;> simp [visitRecord]

theorem State.discardDisabled_latch : s.discardDisabled.latch = s.latch := by
  unfold State.discardDisabled
  split
  · rfl
  · split_ifs <;> rfl

theorem State.noticeStart_latch : s.noticeStart.latch = s.latch := by
  unfold State.noticeStart
  split_ifs
  · rfl
  · split <;> rfl

theorem State.noticeComplete_latch : s.noticeComplete.latch = s.latch := by
  unfold State.noticeComplete
  split <;> rfl

theorem State.noticeFail_latch (why : TxFailure) : (s.noticeFail why).latch = s.latch := by
  unfold State.noticeFail
  split <;> rfl

theorem State.replyStart_latch : s.replyStart.latch = s.latch := by
  unfold State.replyStart
  split_ifs
  · rfl
  · split <;> rfl

theorem State.replyComplete_latch : s.replyComplete.latch = s.latch := by
  unfold State.replyComplete
  split <;> rfl

theorem State.replyFail_latch (why : TxFailure) : (s.replyFail why).latch = s.latch := by
  unfold State.replyFail
  split <;> rfl

@[simp] theorem State.enterHalt_latch : s.enterHalt.latch = s.latch := State.stopWhere_latch { s with mode := .halt } _

@[simp] theorem State.enterRun_latch : s.enterRun.latch = s.latch := State.rescan_latch { s with mode := .run }

@[simp] theorem State.enterConfig_latch : s.enterConfig.latch = s.latch := by
  simp only [State.enterConfig, State.settle_latch, State.rescan_latch, State.retireWaitingWhere_latch]
  rfl

theorem State.setModeRun_latch : s.setModeRun.1.latch = s.latch := by
  unfold State.setModeRun
  split
  · rfl
  · rfl
  split
  · rfl
  split
  · rfl
  · exact s.enterRun_latch

theorem State.setModeConfig_latch : s.setModeConfig.1.latch = s.latch := by
  unfold State.setModeConfig
  split
  · rfl
  all_goals
    split
    · rfl
    · exact s.enterConfig_latch

theorem doSetMode_latch (e : CpEntry) : (doSetMode e s).1.latch = s.latch := by
  unfold doSetMode
  split_ifs
  · exact s.setModeRun_latch
  · exact s.setModeConfig_latch
  · rfl

theorem doHalt_latch (e : CpEntry) : (doHalt e s).1.latch = s.latch := by
  unfold doHalt
  split <;> simp

theorem doResume_latch (e : CpEntry) : (doResume e s).1.latch = s.latch := by
  unfold doResume
  split
  · rfl
  · rfl
  · split_ifs <;> simp

theorem doWriteTier_latch (e : CpEntry) : (doWriteTier e s).1.latch = s.latch := by
  unfold doWriteTier
  split
  · rfl
  split
  · rfl
  · rfl
  · dsimp only
    split_ifs <;> rfl

theorem doReadTier_latch (e : CpEntry) : (doReadTier e s).1.latch = s.latch := by
  unfold doReadTier
  split
  · rfl
  · split <;> rfl

theorem doSetRest_latch (e : CpEntry) : (doSetRest e s).1.latch = s.latch := by
  unfold doSetRest
  split
  · rfl
  · split <;> rfl

theorem doAdopt_latch (e : CpEntry) : (doAdopt e s).1.latch = s.latch := by
  unfold doAdopt
  split_ifs
  · rfl
  · split
    · rfl
    · split_ifs <;> rfl

theorem doWriteGlobal_latch (e : CpEntry) : (doWriteGlobal e s).1.latch = s.latch := by
  unfold doWriteGlobal
  split
  · rfl
  · split <;> rfl

theorem doReadGlobal_latch (e : CpEntry) : (doReadGlobal e s).1.latch = s.latch := by
  unfold doReadGlobal
  split <;> rfl

theorem doWriteCeiling_latch (e : CpEntry) : (doWriteCeiling e s).1.latch = s.latch := by
  unfold doWriteCeiling
  dsimp only
  split_ifs
  · rfl
  · rfl
  · rfl
  all_goals simp only [State.latch]

theorem State.setCapacity_latch (p : PoolId) (v : Nat) : (s.setCapacity p v).latch = s.latch := by
  have setPool (q : Pool) : (s.setPool p q).latch = s.latch := by cases p <;> rfl
  unfold State.setCapacity
  dsimp only
  split_ifs <;> simp [setPool]

theorem doSetPool_latch (e : CpEntry) : (doSetPool e s).1.latch = s.latch := by
  unfold doSetPool
  split
  · rfl
  · exact s.setCapacity_latch _ _

theorem State.placeHold_latch (k : HoldNo) (a : Arc) : (s.placeHold k a).latch = s.latch :=
  State.stopWhere_latch (s.setHold k (some a)) _

theorem doPlaceHold_latch (e : CpEntry) : (doPlaceHold e s).1.latch = s.latch := by
  unfold doPlaceHold
  split
  · rfl
  · dsimp only
    exact s.placeHold_latch _ _

theorem doLiftHold_latch (e : CpEntry) : (doLiftHold e s).1.latch = s.latch := by
  unfold doLiftHold
  split
  · rfl
  · split_ifs
    · rfl
    · exact State.rescan_latch _

theorem State.revoke_latch {s u : State} {h : Handle} {st : ClaimState} (e : s.revoke h = some (u, st)) :
    u.latch = s.latch := by
  unfold State.revoke at e
  split at e
  · cases e
  · split at e <;> cases e <;> simp

theorem doCancelClaim_latch (e : CpEntry) : (doCancelClaim e s).1.latch = s.latch := by
  unfold doCancelClaim
  split
  · rfl
  · rfl
  · split
    · rfl
    · next done => exact State.revoke_latch done

theorem State.clearTier_latch (t : TierNo) (a : Arc) : (s.clearTier t a).latch = s.latch := by
  unfold State.clearTier State.placeCleared
  split <;> simp

theorem doClearTier_latch (e : CpEntry) : (doClearTier e s).1.latch = s.latch := by
  unfold doClearTier
  split
  · rfl
  split
  · rfl
  split
  · rfl
  split
  · rfl
  · exact s.clearTier_latch _ _

theorem doSetCursor_latch (e : CpEntry) : (doSetCursor e s).1.latch = s.latch := by
  unfold doSetCursor
  split
  · rfl
  · dsimp only
    split_ifs <;> rfl

theorem doReadNext_latch (e : CpEntry) : (doReadNext e s).1.latch = s.latch := by
  unfold doReadNext
  split <;> rfl

end Frames

/-! ### Events that report faults -/

section Reports
variable {s : State} {r : FaultRecord} {second : Bool} (h : s.HoldsFault r second)
include h

theorem State.HoldsFault.of_latch {u : State} (same : u.latch = s.latch) : u.HoldsFault r second := by
  obtain ⟨capture, flag⟩ := Prod.mk.inj same
  exact ⟨h.hard, capture.trans h.capture, fun set => flag.trans (h.second set)⟩

/-- No report displaces a hard fault, or clears SECOND (R135). -/
theorem State.HoldsFault.raise (k : FaultKind) (t : Option TierNo) (slot : Option SlotNo) (pose : Option Pose) :
    (s.raise k t slot pose).HoldsFault r second := by
  rw [State.raise_over_hard k t slot pose h.capture h.hard]
  split_ifs
  · exact ⟨h.hard, h.capture, fun _ => rfl⟩
  · exact h

theorem State.HoldsFault.hardFault (t : TierNo) (k : HardKind) (slot : Option SlotNo) (p : Pose) :
    (s.hardFault t k slot p).HoldsFault r second := by
  have raised := h.raise (.tier k) (some t) slot (some p)
  unfold State.hardFault
  dsimp only
  split_ifs
  · exact raised.of_latch (State.hardFaultEvent_latch _ t k)
  · exact raised

theorem State.HoldsFault.expire (t : TierNo) : (s.expire t).HoldsFault r second :=
  (h.hardFault t .lease _ _).of_latch (State.stopLease_latch _ t)

theorem State.HoldsFault.tickAll (order : List TierNo) : (s.tickAll order).HoldsFault r second := by
  have expired := foldl_keeps (P := (State.HoldsFault · r second)) (f := State.expireIfDue) (fun u t hu => ?_)
    (order ++ List.finRange 24) (h.of_latch s.lowerLeases_latch)
  · exact expired.of_latch (State.settle_latch _)
  · unfold State.expireIfDue
    split_ifs
    · exact hu.expire t
    · exact hu

theorem State.HoldsFault.leaseExpiry (t : TierNo) : (s.leaseExpiry t).HoldsFault r second := by
  have lowered : (s.setTier t { s.tier t with lease := 0 }).HoldsFault r second := h.of_latch rfl
  unfold State.leaseExpiry
  split_ifs
  · exact (lowered.expire t).of_latch (State.settle_latch _)
  · exact h

theorem State.HoldsFault.stopnAssert : s.stopnAssert.HoldsFault r second := by
  have raised := State.HoldsFault.raise (s := { s with stopnLow := true }) (h.of_latch rfl) .hallStop none none none
  unfold State.stopnAssert
  dsimp only
  split
  · exact h.of_latch rfl
  · exact raised.of_latch (by simp)
  · exact raised.of_latch (by simp)

/-! Frames that arrive. -/

theorem State.HoldsFault.mpArrival (f : Frame) : (s.mpArrival f).HoldsFault r second := by
  have received : s.mpReceived.HoldsFault r second := h.of_latch rfl
  unfold State.mpArrival State.mpIgnore State.mpAccept
  split
  · exact h
  split
  · exact received
  split
  · split_ifs
    · exact received
    · exact h
  · split_ifs
    · exact (received.raise _ _ _ _).of_latch (State.settle_latch _)
    · exact received.of_latch rfl
    · exact (received.raise _ _ _ _).of_latch (State.settle_latch _)

theorem State.HoldsFault.cpArrival (f : Frame) : (s.cpArrival f).HoldsFault r second := by
  have received : { s with cpPort := s.cpPort.received }.HoldsFault r second := h.of_latch rfl
  unfold State.cpArrival State.cpAccept
  dsimp only
  split_ifs
  · exact h
  · exact received.of_latch rfl
  · exact (received.raise _ _ _ _).of_latch (State.settle_latch _)
  · exact received

/-! CLAIM and CANCEL. -/

omit h in
theorem State.checkClaim_latch (s : State) (b : Handle) (m : Motion) (declared : Nat) :
    (s.checkClaim b m declared).latch = s.latch := by
  unfold State.checkClaim State.refuseClaim
  dsimp only
  split_ifs
  · rfl
  · rfl
  · split
    · rfl
    · exact State.rescan_latch _

theorem State.HoldsFault.arriveClaim (b : Handle) (d : List Byte) : (s.arriveClaim b d).HoldsFault r second := by
  unfold State.arriveClaim State.refuseClaim
  split
  · exact (h.raise _ _ _ _).of_latch (State.settle_latch _)
  split
  · exact h.of_latch rfl
  split
  · exact h.of_latch rfl
  split
  · exact h.of_latch rfl
  split
  · exact h.of_latch rfl
  · exact h.of_latch (s.checkClaim_latch _ _ _)

theorem State.HoldsFault.cancelHandle (b : Handle) : (s.cancelHandle b).HoldsFault r second := by
  unfold State.cancelHandle
  split
  · exact (h.raise _ _ _ _).of_latch (State.settle_latch _)
  · split <;> exact h.of_latch (by simp)

/-! REPORT. -/

theorem State.HoldsFault.noteClamp (t : TierNo) (slot : Option SlotNo) (raw : Nat) (p : Pose) :
    (s.noteClamp t slot raw p).HoldsFault r second := by
  unfold State.noteClamp
  split_ifs
  · exact h.raise _ _ _ _
  · exact h

theorem State.HoldsFault.noteSequence (t : TierNo) (seq : Nat) (p : Pose) :
    (s.noteSequence t seq p).HoldsFault r second := by
  unfold State.noteSequence
  dsimp only
  split_ifs
  · exact (h.raise _ _ _ _).of_latch rfl
  · exact h.of_latch rfl

omit h in
theorem State.trimClaim_latch (s : State) (i : RecNo) (c : Claim) (g : Grant) (p : Nat) (phase : Grant → Phase) :
    (s.trimClaim i c g p phase).latch = s.latch := by
  unfold State.trimClaim
  dsimp only
  split_ifs
  · rfl
  · exact State.rescan_latch _

omit h in
theorem State.containedReport_latch (s : State) (i : RecNo) (c : Claim) (p : Pose) (moving : Bool) :
    (s.containedReport i c p moving).latch = s.latch := by
  unfold State.containedReport
  split
  · exact s.trimClaim_latch ..
  · split_ifs
    · exact s.trimClaim_latch ..
    · exact s.retireStopped_latch ..
  · rfl
  · rfl

theorem State.HoldsFault.superviseMoving (t : TierNo) (i : RecNo) (c : Claim) (g : Grant) (p : Pose) (moving : Bool) :
    (s.superviseMoving t i c g p moving).HoldsFault r second := by
  have reloaded : (s.reloadLease t).HoldsFault r second := h.of_latch rfl
  unfold State.superviseMoving
  dsimp only
  split_ifs
  · exact reloaded.hardFault _ _ _ _
  · exact reloaded.hardFault _ _ _ _
  · exact reloaded.of_latch (State.containedReport_latch _ _ _ _ _)

theorem State.HoldsFault.supervise (t : TierNo) (p : Pose) (moving drive : Bool) :
    (s.supervise t p moving drive).HoldsFault r second := by
  unfold State.supervise
  split_ifs
  · exact h.hardFault _ _ _ _
  · split
    · unfold State.superviseIdle
      split_ifs
      · exact h.hardFault _ _ _ _
      · exact h
    iterate 2
      · split
        · exact h
        · split
          · exact h
          · exact h.superviseMoving t _ _ _ p moving
    all_goals exact h

theorem State.HoldsFault.arriveReport (t : TierNo) (d : List Byte) : (s.arriveReport t d).HoldsFault r second := by
  unfold State.arriveReport State.acceptReport State.handleReport
  dsimp only
  have tracked (seq raw : Nat) (p : Pose) :
      (((s.noteSequence t seq p).noteClamp t none raw p).track t p).HoldsFault r second :=
    ((h.noteSequence t seq p).noteClamp t none raw p).of_latch rfl
  split_ifs
  · exact h
  · exact (tracked _ _ _).of_latch (State.settle_latch _)
  · exact ((tracked _ _ _).supervise t _ _ _).of_latch (State.settle_latch _)

/-! RELEASE. -/

theorem State.HoldsFault.releaseGranted (i : RecNo) (c : Claim) (g : Grant) (p : Pose) :
    (s.releaseGranted i c g p).HoldsFault r second := by
  have short := h.raise .shortArrival (some c.handle.tier) (some c.handle.slot) (some p)
  unfold State.releaseGranted
  dsimp only
  split_ifs
  · exact h.of_latch (by simp)
  · exact short.of_latch (by simp)

theorem State.HoldsFault.releaseChecked (c : Claim) (g : Grant) (d : List Byte) {done : State → Pose → State}
    (ends : ∀ {u : State}, u.HoldsFault r second → ∀ p, (done u p).HoldsFault r second) :
    (s.releaseChecked c g d done).HoldsFault r second := by
  have tracked (slot : Option SlotNo) (raw : Nat) (p : Pose) :
      ((s.noteClamp c.handle.tier slot raw p).track c.handle.tier p).HoldsFault r second :=
    (h.noteClamp c.handle.tier slot raw p).of_latch rfl
  unfold State.releaseChecked
  dsimp only
  split_ifs
  · exact (ends (tracked _ _ _) _).of_latch (State.settle_latch _)
  · exact ((tracked _ _ _).hardFault _ _ _ _).of_latch (State.settle_latch _)

theorem State.HoldsFault.arriveRelease (b : Handle) (d : List Byte) : (s.arriveRelease b d).HoldsFault r second := by
  have protocol := (h.raise .protocol (some b.tier) (some b.slot) none).of_latch (State.settle_latch _)
  unfold State.arriveRelease
  split_ifs
  · split
    · exact protocol
    · split
      · exact h.releaseChecked _ _ d fun hu p => hu.releaseGranted _ _ _ p
      · exact h.releaseChecked _ _ d fun hu p => hu.of_latch (State.retireStopped_latch ..)
      · exact h.of_latch rfl
      · exact protocol
  · exact protocol

/-! Entries of the MP inbound FIFO. -/

theorem State.HoldsFault.withMpFifo (rest : List MpEntry) : { s with mpFifo := rest }.HoldsFault r second :=
  h.of_latch rfl

theorem State.HoldsFault.takeClaim : s.takeClaim.HoldsFault r second := by
  unfold State.takeClaim
  split
  · split_ifs
    · exact (h.withMpFifo _).arriveClaim _ _
    · exact h
  · exact h

theorem State.HoldsFault.takeCancel : s.takeCancel.HoldsFault r second := by
  unfold State.takeCancel
  split
  · split_ifs
    · exact (h.withMpFifo _).cancelHandle _
    · exact h
  · exact h

theorem State.HoldsFault.takeReport : s.takeReport.HoldsFault r second := by
  unfold State.takeReport
  split
  · split_ifs
    · exact (h.withMpFifo _).arriveReport _ _
    · exact h
  · exact h

theorem State.HoldsFault.takeRelease : s.takeRelease.HoldsFault r second := by
  unfold State.takeRelease
  split
  · split_ifs
    · exact (h.withMpFifo _).arriveRelease _ _
    · exact h
  · exact h

/-! ### Every event but those that empty the record -/

theorem State.HoldsFault.powered {f : State → State} (acts : (f s).HoldsFault r second) :
    (s.powered f).HoldsFault r second :=
  State.powered_cases (P := (State.HoldsFault · r second)) h acts

theorem State.HoldsFault.executeIf (due : CpEntry → Bool) {run : CpEntry → State → State × Answer}
    (latch : ∀ s e, (run e s).1.latch = s.latch) : (s.executeIf due run).HoldsFault r second :=
  State.executeIf_cases (P := (State.HoldsFault · r second)) h fun e rest =>
    h.of_latch (latch { s with cpFifo := rest } e)

/-- A console command that leaves the Fault Capture, at whatever moment its event falls (R166, R168). -/
theorem State.HoldsFault.command (code : Nat) {run : CpEntry → State → State × Answer}
    (latch : ∀ s e, (run e s).1.latch = s.latch) :
    (s.powered fun s => s.execute code run).HoldsFault r second :=
  h.powered (h.executeIf _ latch)

omit h in
theorem holdsFault_of_next {v u : State} (e : (Host.Outcome.next v : Host.Outcome State Fault Refusal) = .next u)
    (h : v.HoldsFault r second) : u.HoldsFault r second :=
  Host.Outcome.next.inj e ▸ h

/-- The events that empty the Fault Capture: CLEAR_FAULT, SOFT_RESET, and both of RESETN (R138, R143, R151). -/
def emptiesCapture : Instr → Bool
  | .clearFault | .softReset | .powerOnReset _ _ | .resetnRisingEdge _ _ => true
  | _ => false

theorem exec_holdsFault {i : Instr} {u : State} (stays : emptiesCapture i = false) (e : exec i s = .next u) :
    u.HoldsFault r second := by
  cases i with
  | clearFault | softReset | powerOnReset | resetnRisingEdge => cases stays
  | stopnAssertion => exact holdsFault_of_next e (h.powered h.stopnAssert)
  | tick order => exact holdsFault_of_next e (h.powered (h.tickAll order))
  | leaseExpiry t => exact holdsFault_of_next e (h.powered (h.leaseExpiry t))
  | mpFrameArrival f => exact holdsFault_of_next e (h.powered (h.mpArrival f))
  | stopnRelease | mpReceiveError | busOffRecovery | cpReceiveError | cpBusOffRecovery =>
    exact holdsFault_of_next e (h.powered (h.of_latch rfl))
  | disabledEntryDiscard => exact holdsFault_of_next e (h.powered (h.of_latch s.discardDisabled_latch))
  | claim => exact holdsFault_of_next e (h.powered h.takeClaim)
  | cancel => exact holdsFault_of_next e (h.powered h.takeCancel)
  | report => exact holdsFault_of_next e (h.powered h.takeReport)
  | release => exact holdsFault_of_next e (h.powered h.takeRelease)
  | visit => exact holdsFault_of_next e (h.powered (h.of_latch s.visit_latch))
  | noticeStart => exact holdsFault_of_next e (h.powered (h.of_latch s.noticeStart_latch))
  | noticeCompletion => exact holdsFault_of_next e (h.powered (h.of_latch s.noticeComplete_latch))
  | noticeFailure why => exact holdsFault_of_next e (h.powered (h.of_latch (s.noticeFail_latch why)))
  | cpCommandArrival f => exact holdsFault_of_next e (h.powered (h.cpArrival f))
  | replyStart => exact holdsFault_of_next e (h.powered (h.of_latch s.replyStart_latch))
  | replyCompletion => exact holdsFault_of_next e (h.powered (h.of_latch s.replyComplete_latch))
  | replyFailure why => exact holdsFault_of_next e (h.powered (h.of_latch (s.replyFail_latch why)))
  | unknownCommand => exact holdsFault_of_next e (h.powered (h.executeIf _ fun _ _ => rfl))
  | readStatus => exact holdsFault_of_next e (h.command 0x01 (run := doReadStatus) fun _ _ => rfl)
  | setMask => exact holdsFault_of_next e (h.command 0x02 (run := doSetMask) fun _ _ => rfl)
  | readFault => exact holdsFault_of_next e (h.command 0x03 (run := doReadFault) fun _ _ => rfl)
  | setMode => exact holdsFault_of_next e (h.command 0x05 doSetMode_latch)
  | halt => exact holdsFault_of_next e (h.command 0x06 doHalt_latch)
  | resume => exact holdsFault_of_next e (h.command 0x07 doResume_latch)
  | writeTier => exact holdsFault_of_next e (h.command 0x10 doWriteTier_latch)
  | readTier => exact holdsFault_of_next e (h.command 0x11 doReadTier_latch)
  | setRest => exact holdsFault_of_next e (h.command 0x12 doSetRest_latch)
  | adopt => exact holdsFault_of_next e (h.command 0x13 doAdopt_latch)
  | writeGlobal => exact holdsFault_of_next e (h.command 0x14 doWriteGlobal_latch)
  | readGlobal => exact holdsFault_of_next e (h.command 0x15 doReadGlobal_latch)
  | writeCeiling => exact holdsFault_of_next e (h.command 0x16 doWriteCeiling_latch)
  | setPool => exact holdsFault_of_next e (h.command 0x20 doSetPool_latch)
  | placeHold => exact holdsFault_of_next e (h.command 0x21 doPlaceHold_latch)
  | liftHold => exact holdsFault_of_next e (h.command 0x22 doLiftHold_latch)
  | cancelClaim => exact holdsFault_of_next e (h.command 0x23 doCancelClaim_latch)
  | clearTier => exact holdsFault_of_next e (h.command 0x24 doClearTier_latch)
  | setCursor => exact holdsFault_of_next e (h.command 0x30 doSetCursor_latch)
  | readNext => exact holdsFault_of_next e (h.command 0x31 doReadNext_latch)

end Reports

/-- Settles O60: no event but the four that empty the Fault Capture displaces a hard fault or clears SECOND. -/
theorem hardFaultRecordStaysUntilCleared : Obligations.HardFaultRecordStaysUntilCleared := by
  intro i s u r held hard e clear soft power edge
  have stays : emptiesCapture i = false := by
    cases i with
    | clearFault => exact absurd rfl clear
    | softReset => exact absurd rfl soft
    | powerOnReset cause low => exact absurd rfl (power cause low)
    | resetnRisingEdge straps low => exact absurd rfl (edge straps low)
    | _ => rfl
  have after := exec_holdsFault (second := s.second) ⟨hard, held, id⟩ stays e
  exact ⟨after.capture, after.second⟩

end Sys2Proof.Machine
end

section
/-! SUPPORT. CLEAR_TIER, check by check and placement by placement (R139 to R141). -/

namespace Sys2Proof.Machine

/-! ### Placements (R140) -/

section Placement
variable {s : State} {t : TierNo} {i : RecNo} {c : Claim} {g : Grant}

/-- The footprint at the tracked pose, the first placement that CLEAR_TIER tries (R140). -/
def State.candidate (s : State) (t : TierNo) : Arc :=
  footprint (s.tier t).cfg s.globals (s.tier t).tracked

theorem State.frozenHead_of_none (idle : s.headClaim t = none) : s.frozenHead t = none := by
  simp only [State.frozenHead, idle]

theorem State.frozenHead_of_frozen (head : s.headClaim t = some (i, c)) (frozen : c.phase = .frozen g) :
    s.frozenHead t = some (i, c, g) := by
  simp only [State.frozenHead, head, frozen]

theorem State.placement_clear (clear : s.clearOfOthers t (s.candidate t) = true) :
    s.placement t = some (0, s.candidate t) :=
  if_pos clear

theorem State.placement_frozen (blocked : ¬s.clearOfOthers t (s.candidate t) = true)
    (head : s.frozenHead t = some (i, c, g)) : s.placement t = some (1, g.arc) :=
  (if_neg blocked).trans (by rw [head]; rfl)

theorem State.placement_none (blocked : ¬s.clearOfOthers t (s.candidate t) = true) (idle : s.frozenHead t = none) :
    s.placement t = none :=
  (if_neg blocked).trans (by rw [idle]; rfl)

/-! ### Effects (R141) -/

theorem State.clearTier_idle (idle : s.frozenHead t = none) (a : Arc) :
    s.clearTier t a = ((s.placeAt t (s.tier t).tracked a).clearFaultKind t).rescan.settle := by
  simp only [State.clearTier, State.placeCleared, idle]

theorem State.clearTier_frozen (head : s.frozenHead t = some (i, c, g)) (a : Arc) : s.clearTier t a =
    ((s.withEnded i c.handle g .faulted (s.tier t).tracked a).clearFaultKind t).rescan.settle := by
  simp only [State.clearTier, State.placeCleared, head, State.retireActive_eq]

end Placement

/-! ### The command (R139) -/

section Command
variable {s : State} {e : CpEntry} {rest : List CpEntry} (due : s.CommandDue e rest 0x24)
include due

theorem exec_clearTier_config (config : s.mode = .config) : exec .clearTier s = .next (s.refusal e rest .mode) := by
  rw [exec_clearTier due, doClearTier, if_pos config, State.afterCommand_refuse]

variable (mode : s.mode ≠ .config)
include mode

theorem exec_clearTier_range (bad : 23 < byteAt e.data 2) : exec .clearTier s = .next (s.refusal e rest .range) := by
  rw [exec_clearTier due, doClearTier, if_neg mode, tierOfNat_of_lt bad, State.afterCommand_refuse]

variable {t : TierNo} (tier : byteAt e.data 2 = t.val)
include tier

theorem exec_clearTier_sound (sound : s.tierState t ≠ .faulted) :
    exec .clearTier s = .next (s.refusal e rest .notFaulted) := by
  rw [exec_clearTier due, doClearTier, if_neg mode, tier, tierOfNat_val, ← State.afterCommand_refuse]
  exact congrArg (Host.Outcome.next <| State.afterCommand e ·) (if_pos sound)

variable (faulted : s.tierState t = .faulted)
include faulted

theorem exec_clearTier_overlap (none : s.placement t = none) :
    exec .clearTier s = .next (s.refusal e rest .overlap) := by
  have found : { s with cpFifo := rest }.placement t = Option.none := none
  rw [exec_clearTier due, doClearTier, if_neg mode, tier, tierOfNat_val, ← State.afterCommand_refuse]
  simp only [found]
  exact congrArg (Host.Outcome.next <| State.afterCommand e ·) (if_neg (not_not.mpr faulted))

theorem exec_clearTier_placed {n : Nat} {a : Arc} (found : s.placement t = some (n, a)) : exec .clearTier s = .next
    (s.answer e rest (fun s => s.clearTier t a) .ok (u8 t.val ++ u8 n ++ u16 a.start ++ u16 a.length)) := by
  have found : { s with cpFifo := rest }.placement t = some (n, a) := found
  rw [exec_clearTier due, doClearTier, if_neg mode, tier, tierOfNat_val, ← State.afterCommand_of]
  simp only [found]
  exact congrArg (Host.Outcome.next <| State.afterCommand e ·) (if_neg (not_not.mpr faulted))

end Command

/-- Settles O46: the checks in their order; then footprint, frozen arc or OVERLAP, with the effects of either head claim. -/
theorem clearTierByRow : Obligations.ClearTierByRow := by
  intro s e rest due
  refine ⟨exec_clearTier_config due, exec_clearTier_range due, ?_⟩
  intro mode t tier p candidate isClear unfaulted reply
  refine ⟨exec_clearTier_sound due mode tier, fun faulted idle => ?_, fun faulted i c g head _ frozen => ?_⟩
  · have idle : s.frozenHead t = none := State.frozenHead_of_none idle
    refine ⟨fun clear => ?_, fun blocked => ?_⟩
    · rw [exec_clearTier_placed due mode tier faulted (State.placement_clear (State.clearOfOthers_iff.mpr clear))]
      refine congrArg Host.Outcome.next (State.answer_congr ?_ _ _)
      exact State.clearTier_idle (s := { s with cpFifo := rest }) idle candidate
    · exact exec_clearTier_overlap due mode tier faulted
        (State.placement_none (mt State.clearOfOthers_iff.mp blocked) idle)
  · have head : s.frozenHead t = some (i, c, g) := State.frozenHead_of_frozen head frozen
    have effect (a : Arc) : { s with cpFifo := rest }.clearTier t a =
        unfaulted ({ s with cpFifo := rest }.withEnded i c.handle g .faulted p a) :=
      State.clearTier_frozen (s := { s with cpFifo := rest }) head a
    refine ⟨fun clear => ?_, fun blocked => ?_⟩
    · rw [exec_clearTier_placed due mode tier faulted (State.placement_clear (State.clearOfOthers_iff.mpr clear))]
      exact congrArg Host.Outcome.next (State.answer_congr (effect candidate) _ _)
    · rw [exec_clearTier_placed due mode tier faulted
        (State.placement_frozen (mt State.clearOfOthers_iff.mp blocked) head)]
      exact congrArg Host.Outcome.next (State.answer_congr (effect g.arc) _ _)

end Sys2Proof.Machine
end

section
/-! SUPPORT. The tier hard-fault event of a tier without a fault kind, with an active claim and without one, item by item (R127
to R129). -/

namespace Sys2Proof.Machine

/-! ### Claims by phase -/

section Phases
variable {c : Claim} {g : Grant}

theorem Claim.grantedAnd_of_granted (granted : c.phase = .granted g) (q : Handle → Arc → Bool) :
    c.grantedAnd q = q c.handle g.arc := by
  simp only [Claim.grantedAnd, granted]

theorem Claim.grantedAnd_of_not_granted (other : ∀ g, c.phase ≠ .granted g) (q : Handle → Arc → Bool) :
    c.grantedAnd q = false := by
  rw [← Bool.not_eq_true, Claim.grantedAnd_iff]
  rintro ⟨g, granted, -⟩
  exact other g granted

theorem Claim.stopped_of_granted (granted : c.phase = .granted g) : c.stopped = { c with phase := .stopping g } := by
  simp only [Claim.stopped, granted]

end Phases

/-! ### The head claim of a tier -/

section Head
variable {s : State} {t : TierNo}

theorem State.HandlesUnique.headClaim_of_head (unique : s.HandlesUnique) {x : SlotNo} {j : RecNo} {d : Claim}
    (head : (s.tier t).legs.head? = some x) (hd : s.Holds j d) (handle : d.handle = ⟨t, x⟩) :
    s.headClaim t = some (j, d) := by
  obtain ⟨l, legs⟩ := List.head?_eq_some_iff.mp head
  simp only [State.headClaim, legs]
  exact unique.claimAt_iff.mpr ⟨hd, handle⟩

theorem State.headClaim_of_activeClaim {i : RecNo} {c : Claim} (found : s.activeClaim t = some (i, c)) :
    s.headClaim t = some (i, c) := by
  unfold State.activeClaim at found
  split at found
  · cases found
  · next head =>
    split_ifs at found
    cases found
    exact head

theorem State.waiting_of_no_activeClaim (idle : s.activeClaim t = none) {i : RecNo} {c : Claim}
    (head : s.headClaim t = some (i, c)) : c.phase = .waiting := by
  by_contra active
  cases idle.symm.trans (State.activeClaim_of_head head active)

/-- Without an active claim an enabled, placed tier takes up its standing arc (R34). -/
theorem State.spaceRecord_of_idle {a : Arc} (enabled : (s.tier t).cfg.enabled = true)
    (standing : (s.tier t).standing = some a) (idle : s.activeClaim t = none) : s.spaceRecord t = some a := by
  simp [State.spaceRecord, Tier.placed, State.activeArc, enabled, standing, idle]

end Head

/-! ### Retirements, hazard stop and scan request (R128, R129) -/

/-- A failed tier's own claims that have not retired are those that were not WAITING. -/
theorem State.clearAround_own {s : State} {t : TierNo} {z : Hazard} {j : RecNo} {d : Claim}
    (hd : (s.clearAround t z).Holds j d) (own : d.handle.tier = t) : s.Holds j d ∧ d.phase ≠ .waiting := by
  rw [State.Holds, State.clearAround_record] at hd
  split_ifs at hd with retires
  obtain ⟨e, he, same⟩ := Option.map_eq_some_iff.mp hd
  split_ifs at same with stops
  · rw [Claim.grantedAnd_around, ← e.stopped_handle, same, own] at stops
    simp at stops
  · subst same
    refine ⟨he, fun waiting => retires ?_⟩
    rw [he, Option.any_some, Claim.waitsAt_waiting waiting own]

/-- No hazard stop reaches the PERMIT line of the failed tier itself. -/
theorem State.clearAround_permitLine_self (s : State) (t : TierNo) (z : Hazard) :
    (s.clearAround t z).permitLine t = s.permitLine t := by
  have none : s.anyClaim (fun d => d.grantedAnd (stopsAround t z) && d.handle.tier == t) = false := by
    rw [← Bool.not_eq_true, State.anyClaim_iff]
    rintro ⟨j, d, -, picked⟩
    rw [Bool.and_eq_true, beq_iff_eq, Claim.grantedAnd_around] at picked
    obtain ⟨stops, own⟩ := picked
    simp [own] at stops
  simp [State.clearAround_permitLine, none]

/-- What follows fault kind and freeze in a hard-fault event: retirements, hazard stop, and the scan request of the
retirements. -/
def State.retireAndStop (s : State) (t : TierNo) (z : Hazard) : State :=
  if s.anyClaim (Claim.waitsAt t) then (s.clearAround t z).rescan else s.clearAround t z

section RetireAndStop
variable (s : State) (t : TierNo) (z : Hazard)

@[simp] theorem State.retireAndStop_record (j : RecNo) :
    (s.retireAndStop t z).record j = (s.clearAround t z).record j := by
  unfold State.retireAndStop
  split_ifs <;> simp

@[simp] theorem State.retireAndStop_mailbox (b : Handle) :
    (s.retireAndStop t z).mailbox b = (s.clearAround t z).mailbox b := by
  unfold State.retireAndStop
  split_ifs <;> simp

@[simp] theorem State.retireAndStop_permitLine (w : TierNo) :
    (s.retireAndStop t z).permitLine w = (s.clearAround t z).permitLine w := by
  unfold State.retireAndStop
  split_ifs <;> simp

@[simp] theorem State.retireAndStop_tier (w : TierNo) :
    (s.retireAndStop t z).tier w = (s.clearAround t z).tier w := by
  unfold State.retireAndStop
  split_ifs <;> simp

@[simp] theorem State.retireAndStop_waitList : (s.retireAndStop t z).waitList = (s.clearAround t z).waitList := by
  unfold State.retireAndStop
  split_ifs <;> simp

@[simp] theorem State.retireAndStop_latch : (s.retireAndStop t z).latch = s.latch := by
  unfold State.retireAndStop
  split_ifs <;> simp [State.clearAround, State.latch]

theorem State.retireAndStop_surroundings : (s.retireAndStop t z).surroundings = s.surroundings := by
  unfold State.retireAndStop
  split_ifs <;> simp [State.surroundings, State.links, State.clearAround]

theorem State.retireAndStop_holds {j : RecNo} {d : Claim} :
    (s.retireAndStop t z).Holds j d ↔ (s.clearAround t z).Holds j d := by
  rw [State.Holds, State.retireAndStop_record, State.Holds]

/-- With only WAITING claims behind the head of the leg queue, and at the head one that is WAITING or FROZEN, the tier comes
to stand at its rest pose (R33, R128; assumption log 22). -/
theorem State.retireAndStop_projectedPose
    (behind : ∀ x ∈ (s.tier t).legs.tail, ∃ j d, s.Holds j d ∧ d.handle = ⟨t, x⟩ ∧ d.phase = .waiting)
    (head : ∀ {x j d}, (s.tier t).legs.head? = some x → s.Holds j d → d.handle = ⟨t, x⟩ → d.phase ≠ .waiting →
      d.state = .frozen) : (s.retireAndStop t z).projectedPose t = (s.tier t).rest := by
  have tier : (s.retireAndStop t z).tier t = _ := (s.retireAndStop_tier t z t).trans (s.clearAround_tier_self t z)
  have first {x : SlotNo} (last : ((s.retireAndStop t z).tier t).legs.getLast? = some x) :
      (s.tier t).legs.head? = some x := by
    have left := List.mem_of_getLast? last
    rw [tier, List.mem_filter, Bool.not_eq_true', ← Bool.not_eq_true, State.anyClaim_iff] at left
    obtain ⟨queued, stays⟩ := left
    cases legs : (s.tier t).legs with
    | nil => simp [legs] at queued
    | cons y l =>
      rw [legs] at queued behind
      rcases List.mem_cons.mp queued with rfl | tail
      · rfl
      · obtain ⟨j, d, hd, handle, waiting⟩ := behind x tail
        exact absurd ⟨j, d, hd, by simp [d.isWaiting_iff.mpr waiting, handle]⟩ stays
  have rest : ((s.retireAndStop t z).tier t).rest = (s.tier t).rest := by rw [tier]
  unfold State.projectedPose
  split
  · exact rest
  · next x last =>
    split
    · exact rest
    · next j d found =>
      obtain ⟨hd, handle⟩ := State.claimAt_spec found
      obtain ⟨hd, active⟩ := State.clearAround_own ((s.retireAndStop_holds t z).mp hd) (by rw [handle])
      rw [if_pos (head (first last) hd handle active), rest]

end RetireAndStop

/-! ### The tier has failed, its claims are still to retire -/

/-- The report of a tier's hard fault has reached the Fault Capture (R124). -/
abbrev State.reports (s : State) (t : TierNo) (k : HardKind) (slot : Option SlotNo) (p : Pose) : State :=
  s.raise (.tier k) (some t) slot (some p)

/-- `v` is `s` with the fault reported, the tier's fault kind set, and its active claim, if it has one, FROZEN (R48, R127). -/
structure State.Fails (s : State) (t : TierNo) (k : HardKind) (slot : Option SlotNo) (p : Pose) (v : State) : Prop where
  unique : v.HandlesUnique
  surroundings : v.surroundings = s.surroundings
  latch : v.latch = (s.reports t k slot p).latch
  waitList : v.waitList = s.waitList
  scan : v.scan = s.scan
  fault : (v.tier t).fault = some k
  rest : (v.tier t).rest = (s.tier t).rest
  legs : (v.tier t).legs = (s.tier t).legs
  others : ∀ {w}, w ≠ t → v.tier w = s.tier w
  permit : ∀ {w}, w ≠ t → v.permitLine w = s.permitLine w
  claim : ∀ {j d}, v.Holds j d → ∃ e, s.Holds j e ∧ e.handle = d.handle
  waiting : ∀ {j d}, d.phase = .waiting → (v.Holds j d ↔ s.Holds j d)
  away : ∀ {j d}, d.handle.tier ≠ t → (v.Holds j d ↔ s.Holds j d)
  mailbox : ∀ {b}, b.tier ≠ t ∨ (∀ j d, s.Holds j d → d.handle ≠ b) → v.mailbox b = s.mailbox b
  head : ∀ {x j d}, (s.tier t).legs.head? = some x → v.Holds j d → d.handle = ⟨t, x⟩ → d.phase ≠ .waiting →
    d.state = .frozen

section Fails
variable {s v : State} {t : TierNo} {k : HardKind} {slot : Option SlotNo} {p : Pose} {z : Hazard} {j : RecNo} {d : Claim}
  (h : s.Fails t k slot p v)
include h

theorem State.Fails.free (free : s.record j = none) : v.record j = none := by
  rw [Option.eq_none_iff_forall_ne_some]
  intro d hd
  obtain ⟨e, he, -⟩ := h.claim hd
  cases free.symm.trans he

theorem State.Fails.any_waiting (f : Claim → Bool) (j : RecNo) :
    (v.record j).any (fun d => d.isWaiting && f d) = (s.record j).any fun d => d.isWaiting && f d := by
  rw [Bool.eq_iff_iff]
  simp only [Option.any_eq_true, Bool.and_eq_true, Claim.isWaiting_iff]
  exact exists_congr fun d => and_congr_left fun picked => h.waiting picked.1

theorem State.Fails.after_tier_self : (v.retireAndStop t z).tier t =
    { v.tier t with
      legs := (s.tier t).legs.filter fun x => !s.anyClaim fun d => d.isWaiting && d.handle == ⟨t, x⟩ } := by
  have waits (x : SlotNo) : v.anyClaim (fun d => d.isWaiting && d.handle == ⟨t, x⟩) =
      s.anyClaim fun d => d.isWaiting && d.handle == ⟨t, x⟩ := State.anyClaim_congr (h.any_waiting _)
  simp only [State.retireAndStop_tier, State.clearAround_tier_self, waits, h.legs]

theorem State.Fails.after_tier_of_ne {w : TierNo} (other : w ≠ t) : (v.retireAndStop t z).tier w = s.tier w := by
  rw [State.retireAndStop_tier, State.clearAround_tier_of_ne _ _ _ other, h.others other]

theorem State.Fails.after_free (free : s.record j = none) : (v.retireAndStop t z).record j = none := by
  rw [State.retireAndStop_record, State.clearAround_free _ _ _ (h.free free)]

theorem State.Fails.after_mailbox_vacant {b : Handle} (vacant : ∀ j d, s.Holds j d → d.handle ≠ b) :
    (v.retireAndStop t z).mailbox b = s.mailbox b := by
  rw [State.retireAndStop_mailbox, State.clearAround_mailbox_vacant, h.mailbox (.inr vacant)]
  intro j d hd
  obtain ⟨e, he, handle⟩ := h.claim hd
  exact handle ▸ vacant j e he

theorem State.Fails.after_waiting (hd : s.Holds j d) (own : d.handle.tier = t) (waiting : d.phase = .waiting) :
    (v.retireAndStop t z).record j = none ∧ (v.retireAndStop t z).mailbox d.handle = ⟨.free, .tierFault, true⟩ := by
  rw [State.retireAndStop_record, State.retireAndStop_mailbox]
  exact State.clearAround_waiting h.unique ((h.waiting waiting).mpr hd) own waiting

theorem State.Fails.after_stopped (hd : s.Holds j d) (away : d.handle.tier ≠ t) {g : Grant}
    (granted : d.phase = .granted g) (under : z.overlaps g.arc = true) :
    (v.retireAndStop t z).record j = some { d with phase := .stopping g } ∧
      (v.retireAndStop t z).mailbox d.handle = ⟨.stopping, .granted, true⟩ ∧
      (v.retireAndStop t z).permitLine d.handle.tier = false := by
  rw [State.retireAndStop_record, State.retireAndStop_mailbox, State.retireAndStop_permitLine,
    ← Claim.stopped_of_granted granted]
  exact State.clearAround_stopped h.unique ((h.away away).mpr hd) away
    ((Claim.grantedAnd_of_granted granted _).trans under)

theorem State.Fails.after_clear (hd : s.Holds j d) (away : d.handle.tier ≠ t)
    (clear : d.grantedAnd (fun _ a => z.overlaps a) = false) :
    (v.retireAndStop t z).record j = some d ∧ (v.retireAndStop t z).mailbox d.handle = s.mailbox d.handle := by
  rw [State.retireAndStop_record, State.retireAndStop_mailbox, ← h.mailbox (.inl away)]
  exact State.clearAround_kept h.unique ((h.away away).mpr hd) (by simp [Claim.waitsAt, away])
    (by simp [Claim.grantedAnd_around, clear])

/-- A claim of the tier's own that is not WAITING stays as the freeze left it. -/
theorem State.Fails.after_own (hd : v.Holds j d) (own : d.handle.tier = t) (active : d.phase ≠ .waiting) :
    (v.retireAndStop t z).record j = some d ∧ (v.retireAndStop t z).mailbox d.handle = v.mailbox d.handle := by
  rw [State.retireAndStop_record, State.retireAndStop_mailbox]
  exact State.clearAround_kept h.unique hd (Claim.waitsAt_active active t) (by simp [Claim.grantedAnd_around, own])

theorem State.Fails.after_permitLine {w : TierNo} (other : w ≠ t)
    (clear : ∀ j d g, s.Holds j d → d.handle.tier = w → d.phase = .granted g → z.overlaps g.arc = false) :
    (v.retireAndStop t z).permitLine w = s.permitLine w := by
  rw [State.retireAndStop_permitLine, State.clearAround_permitLine_clear, h.permit other]
  intro j d hd own
  by_cases granted : ∃ g, d.phase = .granted g
  · obtain ⟨g, granted⟩ := granted
    rw [Claim.grantedAnd_of_granted granted]
    exact clear j d g ((h.away (own ▸ other)).mp hd) own granted
  · exact Claim.grantedAnd_of_not_granted (not_exists.mp granted) _

theorem State.Fails.after_projectedPose
    (behind : ∀ x ∈ (s.tier t).legs.tail, ∃ j d, s.Holds j d ∧ d.handle = ⟨t, x⟩ ∧ d.phase = .waiting) :
    (v.retireAndStop t z).projectedPose t = (s.tier t).rest := by
  rw [State.retireAndStop_projectedPose, h.rest]
  · intro x queued
    rw [h.legs] at queued
    obtain ⟨j, d, hd, handle, waiting⟩ := behind x queued
    exact ⟨j, d, (h.waiting waiting).mpr hd, handle, waiting⟩
  · intro x j d first hd handle active
    rw [h.legs] at first
    exact h.head first hd handle active

/-- The event leaves of the wait list what does not retire, and of the scan what a request makes of it (R52, R64). -/
theorem State.Fails.after_scan :
    let left : State :=
      { s with
        waitList := s.waitList.filter fun j => !(s.record j).any (Claim.waitsAt t)
        scan := { s.scan with marks := Vector.ofFn fun j => s.marked j && !(s.record j).any (Claim.waitsAt t) } }
    (v.retireAndStop t z).waitList = left.waitList ∧
      (v.retireAndStop t z).scan = if s.anyClaim (Claim.waitsAt t) then left.rescan.scan else s.scan := by
  intro left
  have waits (j : RecNo) : (v.record j).any (Claim.waitsAt t) = (s.record j).any (Claim.waitsAt t) := h.any_waiting _ j
  have retires : v.anyClaim (Claim.waitsAt t) = s.anyClaim (Claim.waitsAt t) := State.anyClaim_congr waits
  have mode : (v.clearAround t z).mode = left.mode := by
    rw [State.clearAround_eq]
    exact congrArg (fun r => r.2.2.1) h.surroundings
  have waitList : (v.clearAround t z).waitList = left.waitList := by
    rw [State.clearAround_eq]
    simp only [waits, h.waitList, left]
  have scan : (v.clearAround t z).scan = left.scan := by
    rw [State.clearAround_eq]
    simp only [waits, State.marked, h.scan, left]
  refine ⟨(State.retireAndStop_waitList ..).trans waitList, ?_⟩
  rw [State.retireAndStop, retires]
  split_ifs with some
  · exact State.rescan_scan_congr mode waitList scan
  · rw [State.clearAround_scan_idle, h.scan]
    rw [retires]
    exact Bool.eq_false_iff.mpr some

/-- Beside tiers, records, mailboxes and PERMIT lines the event writes Fault Capture, wait list and scan alone. -/
theorem State.Fails.after_eq :
    let u := v.retireAndStop t z
    let raised := s.reports t k slot p
    u = { s with
      tiers := u.tiers, records := u.records, mailboxes := u.mailboxes, permit := u.permit, capture := raised.capture
      second := raised.second, waitList := u.waitList, scan := u.scan } := by
  intro u raised
  obtain ⟨capture, second⟩ := Prod.mk.inj ((v.retireAndStop_latch t z).trans h.latch)
  rw [← capture, ← second]
  exact State.eq_of_surroundings ((v.retireAndStop_surroundings t z).trans h.surroundings)

end Fails

/-! ### The two cases -/

section Cases
variable {s : State} {t : TierNo} {k : HardKind} {slot : Option SlotNo} {p : Pose} {i : RecNo} {c : Claim} {g : Grant}

/-- The tier with the fault reported and its fault kind set, no claim frozen. -/
def State.faultedBy (s : State) (t : TierNo) (k : HardKind) (slot : Option SlotNo) (p : Pose) : State :=
  (s.reports t k slot p).setTier t { s.tier t with fault := some k }

theorem State.faultedBy_holds {j : RecNo} {d : Claim} : (s.faultedBy t k slot p).Holds j d ↔ s.Holds j d := by
  simp only [State.Holds, State.faultedBy, State.setTier_record, State.raise_record]

theorem State.faultedBy_tier (w : TierNo) : (s.faultedBy t k slot p).tier w =
    if t = w then { s.tier t with fault := some k } else s.tier w := by
  rw [State.faultedBy, State.setTier_tier, State.raise_tier]

/-- Where the tier has no active claim nothing freezes. -/
theorem State.fails_idle (unique : s.HandlesUnique) (idle : s.activeClaim t = none) :
    s.Fails t k slot p (s.faultedBy t k slot p) where
  unique j l d e hd he := unique j l d e (State.faultedBy_holds.mp hd) (State.faultedBy_holds.mp he)
  surroundings := by simp [State.faultedBy, State.surroundings, State.links]
  latch := rfl
  waitList := by simp [State.faultedBy]
  scan := by simp [State.faultedBy]
  fault := by rw [State.faultedBy_tier, if_pos rfl]
  rest := by rw [State.faultedBy_tier, if_pos rfl]
  legs := by rw [State.faultedBy_tier, if_pos rfl]
  others other := by rw [State.faultedBy_tier, if_neg (Ne.symm other)]
  permit _ := by simp [State.faultedBy]
  claim {j d} hd := ⟨d, State.faultedBy_holds.mp hd, rfl⟩
  waiting _ := State.faultedBy_holds
  away _ := State.faultedBy_holds
  mailbox _ := by simp [State.faultedBy]
  head first hd handle active := by
    have found := unique.headClaim_of_head first (State.faultedBy_holds.mp hd) handle
    exact absurd (State.waiting_of_no_activeClaim idle found) active

theorem State.reports_holds {j : RecNo} {d : Claim} : (s.reports t k slot p).Holds j d ↔ s.Holds j d := by
  rw [State.Holds, State.raise_record, State.Holds]

/-- The active claim of the tier freezes (R48). -/
theorem State.fails_active (unique : s.HandlesUnique) (found : s.activeClaim t = some (i, c)) (active : c.phase ≠ .waiting)
    (own : c.handle.tier = t) : s.Fails t k slot p ((s.reports t k slot p).frozenBy t k i c g) := by
  have hc : s.Holds i c := State.holds_of_activeClaim found
  have tier := (s.reports t k slot p).frozenBy_tier_self t k g i own
  have same {j : RecNo} {d : Claim} (other : j ≠ i) :
      ((s.reports t k slot p).frozenBy t k i c g).Holds j d ↔ s.Holds j d :=
    (State.frozenBy_holds other).trans State.reports_holds
  have here {d : Claim} (hd : ((s.reports t k slot p).frozenBy t k i c g).Holds i d) :
      d = { c with phase := .frozen g } := Option.some.inj (hd.symm.trans State.frozenBy_holds_self)
  have kept {j : RecNo} {d : Claim} (before : d ≠ c) (after : d ≠ { c with phase := .frozen g }) :
      ((s.reports t k slot p).frozenBy t k i c g).Holds j d ↔ s.Holds j d := by
    by_cases other : j = i
    · subst other
      exact iff_of_false (after ∘ here) fun hd => before (Option.some.inj (hd.symm.trans hc))
    · exact same other
  constructor
  case unique =>
    exact State.frozenBy_unique (State.reports_holds.mpr hc) fun j l d e hd he =>
      unique j l d e (State.reports_holds.mp hd) (State.reports_holds.mp he)
  case surroundings => simp [State.frozenBy, State.surroundings, State.links]
  case latch => rfl
  case waitList => simp [State.frozenBy]
  case scan => simp [State.frozenBy]
  case fault => rw [tier]
  case rest => rw [tier, State.raise_tier]
  case legs => rw [tier, State.raise_tier]
  case others =>
    intro w other
    rw [State.frozenBy, State.freezeWith_tier, if_neg (own ▸ Ne.symm other), State.setTier_tier_of_ne _ _ (Ne.symm other),
      State.raise_tier]
  case permit =>
    intro w other
    rw [State.frozenBy_permitLine, if_neg (own ▸ Ne.symm other), State.raise_permitLine]
  case claim =>
    intro j d hd
    obtain ⟨e, he, handle⟩ := State.frozenBy_handle (State.reports_holds.mpr hc) hd
    exact ⟨e, State.reports_holds.mp he, handle⟩
  case waiting => exact fun waiting => kept (by rintro rfl; exact active waiting) (by rintro rfl; cases waiting)
  case away => exact fun away => kept (by rintro rfl; exact away own) (by rintro rfl; exact away own)
  case mailbox =>
    intro b elsewhere
    have another : c.handle ≠ b := by
      rintro rfl
      exact elsewhere.elim (absurd own) fun vacant => vacant i c hc rfl
    rw [State.frozenBy_mailbox, if_neg another, State.raise_mailbox]
  case head =>
    intro x j d first hd handle _
    by_cases other : j = i
    · subst other
      rw [here hd]
      rfl
    · have head := unique.headClaim_of_head first ((same other).mp hd) handle
      cases head.symm.trans (State.headClaim_of_activeClaim found)
      exact absurd rfl other

/-! What is the active claim's own after the event. -/

section Frozen
variable {z : Hazard} (h : s.Fails t k slot p ((s.reports t k slot p).frozenBy t k i c g))
  (own : c.handle.tier = t)
include own

theorem State.frozen_permitLine :
    (((s.reports t k slot p).frozenBy t k i c g).retireAndStop t z).permitLine t = false := by
  rw [State.retireAndStop_permitLine, State.clearAround_permitLine_self, State.frozenBy_permitLine, if_pos own]

include h

theorem State.Fails.frozen_tier :
    let u := ((s.reports t k slot p).frozenBy t k i c g).retireAndStop t z
    u.tier t = { s.tier t with fault := some k, lease := 0, leaseRunning := false, legs := (u.tier t).legs } := by
  intro u
  have tier : u.tier t = _ := h.after_tier_self
  rw [tier, State.frozenBy_tier_self _ _ _ _ _ own, State.raise_tier]

theorem State.Fails.frozen_claim :
    (((s.reports t k slot p).frozenBy t k i c g).retireAndStop t z).record i = some { c with phase := .frozen g } :=
  (h.after_own State.frozenBy_holds_self own nofun).1

theorem State.Fails.frozen_mailbox :
    (((s.reports t k slot p).frozenBy t k i c g).retireAndStop t z).mailbox c.handle = ⟨.frozen, .granted, true⟩ :=
  (h.after_own State.frozenBy_holds_self own nofun).2.trans ((State.frozenBy_mailbox ..).trans (if_pos rfl))

omit own in
/-- Another claim of the tier that is not WAITING stays. -/
theorem State.Fails.frozen_kept (unique : s.HandlesUnique) (hc : s.Holds i c) {j : RecNo} {d : Claim} (hd : s.Holds j d)
    (tier : d.handle.tier = t) (other : j ≠ i) (active : d.phase ≠ .waiting) :
    let u := ((s.reports t k slot p).frozenBy t k i c g).retireAndStop t z
    u.record j = some d ∧ u.mailbox d.handle = s.mailbox d.handle := by
  intro u
  have another : c.handle ≠ d.handle := fun same => other (unique j i d c hd hc same.symm)
  have kept : ((s.reports t k slot p).frozenBy t k i c g).Holds j d :=
    (State.frozenBy_holds other).mpr (State.reports_holds.mpr hd)
  obtain ⟨record, mailbox⟩ := h.after_own (z := z) kept tier active
  refine ⟨record, mailbox.trans ?_⟩
  rw [State.frozenBy_mailbox, if_neg another, State.raise_mailbox]

end Frozen

/-! The event in either case. -/

theorem State.hardFault_active (sound : (s.tier t).fault = none) (enabled : (s.tier t).cfg.enabled = true)
    (placed : (s.tier t).placed = true)
    (found : s.activeClaim t = some (i, c)) (phase : c.phase = .granted g ∨ c.phase = .stopping g) :
    s.hardFault t k slot p = ((s.reports t k slot p).frozenBy t k i c g).retireAndStop t
      (hazardArc s.globals.stopMargin g.arc) := by
  have active : c.phase ≠ .waiting := by rcases phase with e | e <;> simp [e]
  have head : (s.reports t k slot p).headClaim t = some (i, c) :=
    (State.headClaim_congr (by simp) (by simp)).trans (State.headClaim_of_activeClaim found)
  have hc : (s.reports t k slot p).Holds i c := State.reports_holds.mpr (State.holds_of_activeClaim found)
  have waits := State.anyClaim_congr <| State.frozenBy_any_waiting (t := t) (k := k) (g := g) hc active
    fun d => d.handle.tier == t
  rw [State.hardFault_first k slot p sound, State.hardFaultEvent_active head phase (by simpa using enabled)
    (by simpa using placed), State.retireAndStop, State.raise_globals]
  exact if_congr (Bool.eq_iff_iff.mp waits.symm) rfl rfl

theorem State.hardFault_idle (sound : (s.tier t).fault = none) (enabled : (s.tier t).cfg.enabled = true) {a : Arc}
    (standing : (s.tier t).standing = some a) (idle : s.activeClaim t = none) :
    s.hardFault t k slot p = (s.faultedBy t k slot p).retireAndStop t (hazardArc s.globals.stopMargin a) := by
  have space : (s.reports t k slot p).spaceRecord t = some a := by
    refine State.spaceRecord_of_idle (by simpa using enabled) (by simpa using standing) ?_
    exact (State.activeClaim_congr (by simp) (by simp)).trans idle
  have quiet : (s.faultedBy t k slot p).freezeHead t = s.faultedBy t k slot p := by
    refine State.freezeHead_idle fun i c g head => ?_
    have waiting := State.waiting_of_no_activeClaim idle ((State.headClaim_congr (s := s)
      (by rw [State.faultedBy_tier, if_pos rfl]) (by simp [State.faultedBy])).symm.trans head)
    simp [waiting]
  have named : (s.reports t k slot p).setTier t { s.tier t with fault := some k } = s.faultedBy t k slot p := rfl
  have globals : (s.faultedBy t k slot p).globals = s.globals := by simp [State.faultedBy]
  rw [State.hardFault_first k slot p sound, State.hardFaultEvent_eq, space, State.raise_tier, named, quiet]
  simp only [State.withRetired_globals, globals]
  rfl

end Cases

/-- Settles O44: in either case the tier fails, then its claims retire, others stop, and the retirements request a scan. -/
theorem tierHardFaultFreezesRetiresStops : Obligations.TierHardFaultFreezesRetiresStops := by
  intro s t k slot p a unique sound enabled standing u retires left common
  have request : s.anyClaim (Claim.waitsAt t) = true ↔ ∃ j : RecNo, retires j = true := State.anyClaim_iff_any
  have shared {v : State} {z : Hazard} (h : s.Fails t k slot p v) (event : u = v.retireAndStop t z) : common z := by
    have waitList : (v.retireAndStop t z).waitList = left.waitList := h.after_scan.1
    have scan : (v.retireAndStop t z).scan = if ∃ j : RecNo, retires j = true then left.rescan.scan else s.scan :=
      h.after_scan.2.trans (if_congr request rfl rfl)
    clear_value u
    subst event
    refine ⟨?_, ?_, ?_, fun w => h.after_tier_of_ne, fun j => h.after_free, fun b => h.after_mailbox_vacant,
      fun j d => h.after_waiting, fun j d g hd away granted => ⟨h.after_stopped hd away granted, fun clear => ?_⟩,
      fun j d hd away other => h.after_clear hd away (Claim.grantedAnd_of_not_granted other _),
      fun w => h.after_permitLine, h.after_projectedPose⟩
    · rw [← scan, ← waitList]
      exact h.after_eq
    · rw [h.after_tier_self, h.fault]
    · rw [h.after_tier_self]
    · exact h.after_clear hd away ((Claim.grantedAnd_of_granted granted _).trans clear)
  refine ⟨fun i c g found phase => ?_, fun idle => ?_⟩
  · have own := State.tier_of_headClaim (State.headClaim_of_activeClaim found)
    have active : c.phase ≠ .waiting := by rcases phase with e | e <;> simp [e]
    have placed : (s.tier t).placed = true := by simp [Tier.placed, standing]
    have h := State.fails_active (k := k) (slot := slot) (p := p) (g := g) unique found active own
    have event : u = _ := State.hardFault_active sound enabled placed found phase
    refine ⟨shared h event, ?_⟩
    rw [event]
    exact ⟨h.frozen_tier own, h.frozen_claim own, h.frozen_mailbox own, State.frozen_permitLine own,
      fun j d hd tier other => h.frozen_kept unique (State.holds_of_activeClaim found) hd tier other⟩
  · have h := State.fails_idle (k := k) (slot := slot) (p := p) unique idle
    have event : u = _ := State.hardFault_idle sound enabled standing idle
    refine ⟨shared h event, ?_⟩
    rw [event]
    refine ⟨?_, ?_, fun j d hd tier active => ?_⟩
    · rw [h.after_tier_self, State.faultedBy_tier, if_pos rfl]
    · rw [State.retireAndStop_permitLine, State.clearAround_permitLine_self]
      simp [State.faultedBy]
    · have mailbox : (s.faultedBy t k slot p).mailbox d.handle = s.mailbox d.handle := by simp [State.faultedBy]
      rw [← mailbox]
      exact h.after_own (State.faultedBy_holds.mpr hd) tier active

end Sys2Proof.Machine
end

section
/-! SUPPORT. RESETN and STOPN: the power-on values, what is held while RESETN is low, the edges of STOPN (chapter 8). -/

namespace Sys2Proof.Machine

/-! ### RESETN (R143) -/

/-- With every enable on and no other flag set, ATTN is STOPLINE (R174). -/
theorem AttentionBits.raises_stopline (low : Bool) :
    { AttentionBits.clear with stopline := low }.raises AttentionBits.all = low := by
  cases low <;> rfl

/-- At the rising edge ATTN is the level of STOPLINE (R143, R174). -/
theorem State.resetnRise_eq (s : State) (straps : StrapPins) (low : Bool) :
    s.resetnRise straps low = { s.powerOnValues straps low with resetHeld := false, attn := low } :=
  congrArg (fun attn => { s.powerOnValues straps low with attn := attn }) (AttentionBits.raises_stopline low)

/-- Settles O1: each cause of a power-on reset, and the rising edge of RESETN. -/
theorem resetEventsGivePowerOnValues : Obligations.ResetEventsGivePowerOnValues := by
  refine ⟨fun cause low s => ?_, fun straps low s => ?_⟩
  · cases cause with
    | powerUp pins => rfl
    | resetnLow => rfl
  · exact congrArg Host.Outcome.next (s.resetnRise_eq straps low)

/-- Settles O2: each item of `State.reset` against its table, the vectors entry by entry. -/
theorem powerOnValuesAsTabled : Obligations.PowerOnValuesAsTabled := by
  refine ⟨rfl, fun t => ?_, rfl, fun k => ?_, fun i => ?_, rfl, fun h => ?_, rfl, rfl, fun i => ?_, rfl, rfl, rfl,
    fun k => ?_, rfl, rfl, rfl, rfl, rfl, rfl, rfl, rfl, rfl, fun t => ?_, rfl, rfl, rfl, rfl, rfl, rfl, rfl, rfl, rfl⟩
  · exact Vector.getElem_replicate t.isLt
  · exact Vector.getElem_replicate k.isLt
  · exact Vector.getElem_replicate i.isLt
  · exact Vector.getElem_replicate (handleIndex h).isLt
  · exact Vector.getElem_replicate i.isLt
  · exact Vector.getElem_replicate k.isLt
  · exact Vector.getElem_replicate t.isLt

/-- Settles O3: every event but the two of RESETN asks first whether RESETN is low. -/
theorem nothingActsWhileResetnIsLow : Obligations.NothingActsWhileResetnIsLow := by
  intro i s held notReset notRise
  cases i with
  | powerOnReset cause low => exact absurd rfl (notReset cause low)
  | resetnRisingEdge straps low => exact absurd rfl (notRise straps low)
  | _ => exact congrArg Host.Outcome.next (State.powered_of_low held _)

/-- Settles O54: `State.reset` is the part after a rising edge of RESETN with these pin levels, which is safe from any
state. -/
theorem resetIsSafe : Obligations.ResetIsSafe :=
  State.resetnRise_safe State.reset ⟨⟨false, false⟩, ⟨false, false⟩⟩ false

/-! ### STOPN (R147, R148) -/

section Stopn
variable {s : State}

/-- Entry to HALT is one update of the state (R47, R147). -/
theorem State.enterHalt_eq : s.enterHalt = { s with mode := .halt }.withStopped fun _ _ => true :=
  State.stopWhere_eq _ _

@[simp] theorem State.enterHalt_mode : s.enterHalt.mode = .halt := by
  rw [State.enterHalt_eq, State.withStopped_mode]

theorem State.stopnAssert_config (config : s.mode = .config) : s.stopnAssert = { s with stopnLow := true }.settle := by
  simp only [State.stopnAssert, config]

theorem State.stopnAssert_run (run : s.mode = .run) : s.stopnAssert =
    ({ s.raise .hallStop none none none with stopnLow := true, mode := .halt }.withStopped fun _ _ => true).settle := by
  simp only [State.stopnAssert, run, State.raise_eq, State.enterHalt_eq]

theorem State.stopnAssert_halt (halt : s.mode = .halt) :
    s.stopnAssert = { s.raise .hallStop none none none with stopnLow := true }.settle := by
  simp only [State.stopnAssert, halt, State.raise_eq]

end Stopn

/-- Settles O4: an assertion in each mode, and a release. -/
theorem stopnEdgesByMode : Obligations.StopnEdgesByMode := by
  intro s high
  rw [exec_stopnAssertion high, exec_stopnRelease high]
  exact ⟨fun config => congrArg _ (State.stopnAssert_config config), fun run => congrArg _ (State.stopnAssert_run run),
    fun halt => congrArg _ (State.stopnAssert_halt halt), rfl⟩

end Sys2Proof.Machine
end

section
/-! SUPPORT. SET_MODE, HALT, RESUME and SOFT_RESET, row by row (chapter 8). -/

namespace Sys2Proof.Machine

/-! ### The first of an ordered list -/

/-- The first entry of an ordered list that passes a test is the one with no passing entry ordered before it. -/
theorem find?_eq_some_of_pairwise {α : Type} {r : α → α → Prop} {l : List α} {p : α → Bool} {a : α}
    (ordered : l.Pairwise r) (listed : a ∈ l) (passes : p a = true) (first : ∀ b ∈ l, r b a → ¬p b = true) :
    l.find? p = some a := by
  obtain ⟨before, after, rfl⟩ := List.append_of_mem listed
  obtain ⟨-, -, ahead⟩ := List.pairwise_append.mp ordered
  exact List.find?_eq_some_iff_append.mpr
    ⟨passes, before, after, rfl, fun b hb =>
      by simpa using first b (List.mem_append_left _ hb) (ahead b hb a List.mem_cons_self)⟩

/-- The lowest tier that passes a test. -/
theorem find?_tier_eq_some {p : TierNo → Bool} {t : TierNo} (passes : p t = true) (first : ∀ u < t, ¬p u = true) :
    (List.finRange 24).find? p = some t :=
  find?_eq_some_of_pairwise (List.pairwise_lt_finRange 24) (List.mem_finRange t) passes fun u _ => first u

/-- The pairs of tiers stand in order of the lower tier number, then of the higher (R145). -/
theorem tierPairs_ordered : tierPairs.Pairwise fun p q => p.1 < q.1 ∨ (p.1 = q.1 ∧ p.2 < q.2) := by
  refine List.pairwise_flatMap.mpr ⟨fun t _ => ?_, ?_⟩
  · refine List.pairwise_map.mpr (((List.pairwise_lt_finRange 24).filter _).imp fun lt => ?_)
    exact .inr ⟨rfl, lt⟩
  · refine (List.pairwise_lt_finRange 24).imp fun lt p hp q hq => .inl ?_
    obtain ⟨_, -, rfl⟩ := List.mem_map.mp hp
    obtain ⟨_, -, rfl⟩ := List.mem_map.mp hq
    exact lt

/-! ### RUN-entry validation (R145) -/

section Validation
variable {s : State} {t u : TierNo}

/-- The standing arcs of two tiers, where both are placed, do not overlap. -/
def State.StandClear (s : State) (t u : TierNo) : Prop :=
  ∀ a b, (s.tier t).standing = some a → (s.tier u).standing = some b → a.overlaps b = false

/-- A tier's rest rake, where it is placed, is within the ceiling over its standing arc. -/
def State.StandsLow (s : State) (t : TierNo) : Prop :=
  ∀ a, (s.tier t).standing = some a → (s.tier t).rest.rake ≤ ceilingOver s.ceilings a

/-- Check 1 passes. -/
def State.AllPlaced (s : State) : Prop :=
  ∀ t, (s.tier t).cfg.enabled = true → (s.tier t).standing ≠ none

/-- Check 2 passes. -/
def State.AllClear (s : State) : Prop :=
  ∀ t u, t < u → (s.tier t).cfg.enabled = true → (s.tier u).cfg.enabled = true → s.StandClear t u

theorem Tier.enabledUnplaced_iff {r : Tier} :
    (r.cfg.enabled && !r.placed) = true ↔ r.cfg.enabled = true ∧ r.standing = none := by
  simp [Tier.placed]

theorem State.standingOverlap_iff : s.standingOverlap t u = true ↔
    (s.tier t).cfg.enabled = true ∧ (s.tier u).cfg.enabled = true ∧ ¬s.StandClear t u := by
  simp [State.standingOverlap, State.StandClear, Option.any_eq_true, and_assoc]

/-- The test of check 3. -/
theorem State.enabledTooHigh_iff : ((s.tier t).cfg.enabled &&
    (s.tier t).standing.any fun a => decide (ceilingOver s.ceilings a < (s.tier t).rest.rake)) = true ↔
      (s.tier t).cfg.enabled = true ∧ ¬s.StandsLow t := by
  simp [State.StandsLow, Option.any_eq_true]

theorem State.firstUnplaced_eq_none (placed : s.AllPlaced) : s.firstUnplaced = none :=
  List.find?_eq_none.mpr fun t _ found => by
    obtain ⟨enabled, unplaced⟩ := Tier.enabledUnplaced_iff.mp found
    exact placed t enabled unplaced

theorem State.firstUnplaced_eq_some (enabled : (s.tier t).cfg.enabled = true) (unplaced : (s.tier t).standing = none)
    (least : ∀ u, u < t → (s.tier u).cfg.enabled = true → (s.tier u).standing ≠ none) : s.firstUnplaced = some t :=
  find?_tier_eq_some (Tier.enabledUnplaced_iff.mpr ⟨enabled, unplaced⟩) fun u lt found => by
    obtain ⟨enabled', unplaced'⟩ := Tier.enabledUnplaced_iff.mp found
    exact least u lt enabled' unplaced'

theorem State.firstOverlap_eq_none (clear : s.AllClear) : s.firstOverlap = none :=
  List.find?_eq_none.mpr fun ⟨t, u⟩ listed found => by
    obtain ⟨enabled, enabled', blocked⟩ := State.standingOverlap_iff.mp found
    exact blocked (clear t u (mem_tierPairs.mp listed) enabled enabled')

theorem State.firstOverlap_eq_some (lt : t < u) (enabled : (s.tier t).cfg.enabled = true)
    (enabled' : (s.tier u).cfg.enabled = true) (blocked : ¬s.StandClear t u)
    (first : ∀ v w, v < w → (s.tier v).cfg.enabled = true → (s.tier w).cfg.enabled = true →
      (v < t ∨ (v = t ∧ w < u)) → s.StandClear v w) : s.firstOverlap = some (t, u) :=
  find?_eq_some_of_pairwise tierPairs_ordered (mem_tierPairs.mpr lt)
    (State.standingOverlap_iff.mpr ⟨enabled, enabled', blocked⟩) fun ⟨v, w⟩ listed before found => by
      obtain ⟨on, on', overlap⟩ := State.standingOverlap_iff.mp found
      exact overlap (first v w (mem_tierPairs.mp listed) on on' before)

theorem State.firstTooHigh_eq_none (low : ∀ t, (s.tier t).cfg.enabled = true → s.StandsLow t) : s.firstTooHigh = none :=
  List.find?_eq_none.mpr fun t _ found => by
    obtain ⟨enabled, high⟩ := State.enabledTooHigh_iff.mp found
    exact high (low t enabled)

theorem State.firstTooHigh_eq_some (enabled : (s.tier t).cfg.enabled = true) (high : ¬s.StandsLow t)
    (least : ∀ u, u < t → (s.tier u).cfg.enabled = true → s.StandsLow u) : s.firstTooHigh = some t :=
  find?_tier_eq_some (State.enabledTooHigh_iff.mpr ⟨enabled, high⟩) fun u lt found => by
    obtain ⟨enabled', high'⟩ := State.enabledTooHigh_iff.mp found
    exact high' (least u lt enabled')

theorem State.validate_unplaced (unplaced : s.firstUnplaced = some t) :
    s.validate = some (.of .unplaced (u8 0 ++ u8 t.val)) := by
  simp only [State.validate, unplaced]

theorem State.validate_overlap (placed : s.AllPlaced) (overlap : s.firstOverlap = some (t, u)) :
    s.validate = some (.of .overlap (u8 0 ++ u8 t.val ++ u8 u.val)) := by
  simp only [State.validate, State.firstUnplaced_eq_none placed, overlap]

theorem State.validate_tooHigh (placed : s.AllPlaced) (clear : s.AllClear) (tooHigh : s.firstTooHigh = some t) :
    s.validate = some (.of .ceiling (u8 0 ++ u8 t.val)) := by
  simp only [State.validate, State.firstUnplaced_eq_none placed, State.firstOverlap_eq_none clear, tooHigh]

theorem State.validate_passes (placed : s.AllPlaced) (clear : s.AllClear)
    (low : ∀ t, (s.tier t).cfg.enabled = true → s.StandsLow t) : s.validate = none := by
  simp only [State.validate, State.firstUnplaced_eq_none placed, State.firstOverlap_eq_none clear,
    State.firstTooHigh_eq_none low]

end Validation

/-! ### Mode changes (R145 to R149) -/

section Modes
variable {s : State}

/-- A command that leaves the mode as it is answers with it (R144). -/
theorem State.modeAnswer_of {m : Mode} (mode : s.mode = m) : s.modeAnswer = .of .ok (u8 m.code) := by
  rw [State.modeAnswer, mode]

@[simp] theorem State.enterRun_mode : s.enterRun.mode = .run := by simp [State.enterRun]

/-- The scan requests of the retirements find the mode CONFIG, so a scan can only end (R64, R146). -/
theorem State.enterConfig_eq : s.enterConfig =
    (({ s with mode := .config }.withRetired (fun _ => true) .mode).closeScan).settle := by
  rw [State.enterConfig, State.retireWaitingWhere_eq, State.rescan_not_run (by rw [State.withRetired_mode]; nofun)]

@[simp] theorem State.enterConfig_mode : s.enterConfig.mode = .config := by simp [State.enterConfig_eq]

theorem State.anyActive_iff : s.anyActive = true ↔ ∃ i c, s.Holds i c ∧ c.phase ≠ .waiting := by
  simp [State.anyActive, State.Holds, Option.any_eq_true, Claim.isActive_iff]

theorem State.setModeRun_run (run : s.mode = .run) : s.setModeRun = (s, .of .ok (u8 1)) := by
  simp only [State.setModeRun, run, State.modeAnswer_of run, Mode.code]

theorem State.setModeRun_halt (halt : s.mode = .halt) : s.setModeRun = (s, .refuse .mode) := by
  simp only [State.setModeRun, halt]

section FromConfig
variable (config : s.mode = .config)
include config

theorem State.setModeRun_stopline (low : s.stopnLow = true) : s.setModeRun = (s, .refuse .stopline) := by
  simp only [State.setModeRun, config, low, if_true]

theorem State.setModeRun_invalid (high : s.stopnLow = false) {a : Answer} (fails : s.validate = some a) :
    s.setModeRun = (s, a) := by
  simp only [State.setModeRun, config, high, fails, if_neg Bool.false_ne_true]

theorem State.setModeRun_valid (high : s.stopnLow = false) (passes : s.validate = none) :
    s.setModeRun = (s.enterRun, .of .ok (u8 1)) := by
  simp only [State.setModeRun, config, high, passes, if_neg Bool.false_ne_true, State.modeAnswer_of State.enterRun_mode,
    Mode.code]

theorem State.setModeConfig_config : s.setModeConfig = (s, .of .ok (u8 0)) := by
  simp only [State.setModeConfig, config, State.modeAnswer_of config, Mode.code]

end FromConfig

section ToConfig
variable (mode : s.mode ≠ .config)
include mode

theorem State.setModeConfig_of_ne : s.setModeConfig =
    if s.anyActive then (s, .refuse .busy) else (s.enterConfig, s.enterConfig.modeAnswer) := by
  unfold State.setModeConfig
  split
  · next config => exact absurd config mode
  · rfl
  · rfl

theorem State.setModeConfig_busy (active : s.anyActive = true) : s.setModeConfig = (s, .refuse .busy) := by
  rw [State.setModeConfig_of_ne mode, if_pos active]

theorem State.setModeConfig_idle (idle : ¬s.anyActive = true) : s.setModeConfig =
    ((({ s with mode := .config }.withRetired (fun _ => true) .mode).closeScan).settle, .of .ok (u8 0)) := by
  rw [State.setModeConfig_of_ne mode, if_neg idle, State.modeAnswer_of State.enterConfig_mode, State.enterConfig_eq,
    Mode.code]

end ToConfig
end Modes

/-! ### Rows of a command that is due -/

section Rows
variable {s : State} {e : CpEntry} {rest : List CpEntry} {r : State × Answer} {st : Status}

/-- A command that did this answers so (R166). -/
theorem next_answer {f : State → State} {results : List Byte} (did : r = (f { s with cpFifo := rest }, .of st results)) :
    (.next (State.afterCommand e r) : Host.Outcome State Fault Refusal) = .next (s.answer e rest f st results) := by
  rw [did, State.afterCommand_of]

/-- A command that changed nothing and was refused (R166). -/
theorem next_refusal (did : r = ({ s with cpFifo := rest }, .refuse st)) :
    (.next (State.afterCommand e r) : Host.Outcome State Fault Refusal) = .next (s.refusal e rest st) := by
  rw [did, State.afterCommand_refuse]

end Rows

/-! ### SET_MODE (R144) -/

section SetMode
variable {s : State} (e : CpEntry)

theorem doSetMode_range (bad : byteAt e.data 2 ∉ [0, 1]) : doSetMode e s = (s, .refuse .range) := by
  obtain ⟨notConfig, notRun⟩ : byteAt e.data 2 ≠ 0 ∧ byteAt e.data 2 ≠ 1 := by simpa using bad
  exact (if_neg notRun).trans (if_neg notConfig)

theorem doSetMode_run (target : byteAt e.data 2 = 1) : doSetMode e s = s.setModeRun :=
  if_pos target

theorem doSetMode_config (target : byteAt e.data 2 = 0) : doSetMode e s = s.setModeConfig :=
  (if_neg (by rw [target]; nofun)).trans (if_pos target)

end SetMode

/-- Settles O33: the target, then the mode and STOPN, then the three checks in their order. -/
theorem setModeRunByRow : Obligations.SetModeRunByRow := by
  intro s e rest due
  rw [exec_setMode due]
  refine ⟨fun bad => next_refusal (doSetMode_range e bad), fun target => ?_⟩
  rw [doSetMode_run e target]
  refine ⟨fun run => next_answer (State.setModeRun_run run), fun halt => next_refusal (State.setModeRun_halt halt),
    fun config low => next_refusal (State.setModeRun_stopline config low), fun config high => ?_⟩
  have invalid {st : Status} {results : List Byte} (fails : s.validate = some (.of st results)) :=
    next_answer (f := id) (e := e) (State.setModeRun_invalid (s := { s with cpFifo := rest }) config high fails)
  refine ⟨fun t enabled unplaced least => ?_, fun t u placed lt enabled enabled' blocked first => ?_,
    fun t placed clear enabled tooHigh least => ?_, fun placed clear low => ?_⟩
  · exact invalid (State.validate_unplaced (State.firstUnplaced_eq_some enabled unplaced least))
  · exact invalid (State.validate_overlap placed (State.firstOverlap_eq_some lt enabled enabled' blocked first))
  · exact invalid (State.validate_tooHigh placed clear (State.firstTooHigh_eq_some enabled tooHigh least))
  · exact next_answer (State.setModeRun_valid config high (State.validate_passes placed clear low))

/-- Settles O34: in CONFIG; with an active claim; with none. -/
theorem setModeConfigByRow : Obligations.SetModeConfigByRow := by
  intro s e rest due target
  rw [exec_setMode due, doSetMode_config e target]
  refine ⟨fun config => next_answer (State.setModeConfig_config config),
    fun mode active => next_refusal (State.setModeConfig_busy mode (State.anyActive_iff.mpr active)),
    fun mode waiting => next_answer (State.setModeConfig_idle mode fun found => ?_)⟩
  obtain ⟨i, c, holds, active⟩ := State.anyActive_iff.mp found
  exact active (waiting i c holds)

/-! ### HALT and RESUME (R147, R149) -/

section HaltResume
variable {s : State} (e : CpEntry)

theorem doHalt_config (config : s.mode = .config) : doHalt e s = (s, .refuse .mode) := by
  simp only [doHalt, config]

theorem doHalt_halt (halt : s.mode = .halt) : doHalt e s = (s, .of .ok (u8 2)) := by
  simp only [doHalt, halt, State.modeAnswer_of halt, Mode.code]

theorem doHalt_run (run : s.mode = .run) : doHalt e s =
    (({ s with mode := .halt }.withStopped fun _ _ => true).settle, .of .ok (u8 2)) := by
  have halted : s.enterHalt.settle.mode = .halt := by rw [State.settle_mode, State.enterHalt_mode]
  simp only [doHalt, run, State.modeAnswer_of halted, Mode.code]
  rw [State.enterHalt_eq]

theorem doResume_config (config : s.mode = .config) : doResume e s = (s, .refuse .mode) := by
  simp only [doResume, config]

theorem doResume_run (run : s.mode = .run) : doResume e s = (s, .of .ok (u8 1)) := by
  simp only [doResume, run, State.modeAnswer_of run, Mode.code]

theorem doResume_stopline (halt : s.mode = .halt) (low : s.stopnLow = true) : doResume e s = (s, .refuse .stopline) := by
  simp only [doResume, halt, low, if_true]

theorem doResume_halt (halt : s.mode = .halt) (high : s.stopnLow = false) :
    doResume e s = (s.enterRun, .of .ok (u8 1)) := by
  simp only [doResume, halt, high, if_neg Bool.false_ne_true, State.modeAnswer_of State.enterRun_mode, Mode.code]

end HaltResume

/-- Settles O35: HALT in each mode; RESUME in each mode, in HALT by the level of STOPN. -/
theorem haltAndResumeByMode : Obligations.HaltAndResumeByMode := by
  intro s e rest
  refine ⟨fun due => ?_, fun due => ?_⟩
  · rw [exec_halt due]
    exact ⟨fun config => next_refusal (doHalt_config e config), fun halt => next_answer (doHalt_halt e halt),
      fun run => next_answer (doHalt_run e run)⟩
  · rw [exec_resume due]
    exact ⟨fun config => next_refusal (doResume_config e config), fun run => next_answer (doResume_run e run),
      fun halt low => next_refusal (doResume_stopline e halt low), fun halt high => next_answer (doResume_halt e halt high)⟩

/-! ### SOFT_RESET (R151) -/

section SoftReset
variable {s : State}

/-- A handle is occupied exactly when some claim has it (R39). -/
theorem State.boundTo_isSome_eq_anyClaim (h : Handle) : (s.boundTo h).isSome = s.anyClaim fun c => c.handle == h :=
  List.isSome_find?

/-- The mailboxes of the claims that a soft reset retires (R59). -/
theorem State.resetMailboxes_eq : s.resetMailboxes = Vector.ofFn fun m =>
    if s.anyClaim fun c => c.handle == handleOfIndex m then ⟨.free, .reset, true⟩ else s.mailboxes[m] := by
  simp only [State.resetMailboxes, State.boundTo_isSome_eq_anyClaim]

theorem replicate_eq_ofFn {α : Type} (n : Nat) (a : α) : Vector.replicate n a = Vector.ofFn fun _ => a :=
  Vector.ext fun i hi => by rw [Vector.getElem_replicate, Vector.getElem_ofFn]

end SoftReset

/-- Settles O36: the soft reset of the model is that of R151, and the mode it answers is CONFIG. -/
theorem softResetBlockByBlock : Obligations.SoftResetBlockByBlock := by
  intro s e rest due
  rw [exec_softReset due]
  refine next_answer (Prod.ext ?_ rfl)
  simp only [doSoftReset, State.softReset, State.resetMailboxes_eq, Scan.idle, replicate_eq_ofFn]
  rfl

end Sys2Proof.Machine
end

section
/-! SUPPORT. The links under each event: the operations on the hall leave them as they are, the events of the two ports and the
takers of FIFO entries keep them consistent, whatever the rest of the state (R156, R158, R165, R167). -/

namespace Sys2Proof.Machine

/-- The invariants of the FIFOs, the ports and the reply in flight are what `Links.Safe` says of the links. -/
theorem State.links_safe_iff {s : State} : s.links.Safe ↔ s.FifosBounded ∧ s.PortsConsistent ∧ s.ReplyInFlight :=
  ⟨fun h => ⟨⟨h.mpFifo, h.cpFifo, h.replies⟩, ⟨h.mpPort, h.cpPort, h.mpTx, h.cpTx⟩, h.inFlight⟩,
    fun ⟨fifos, ports, inFlight⟩ =>
      ⟨fifos.mp, fifos.cp, fifos.replies, inFlight, ports.mp, ports.cp, ports.mpTx, ports.cpTx⟩⟩

section Frames
variable (s : State)

/-! ### Operations on the hall leave the links -/

@[simp] theorem State.setTier_links (t : TierNo) (r : Tier) : (s.setTier t r).links = s.links := rfl
@[simp] theorem State.unmark_links (i : RecNo) : (s.unmark i).links = s.links := rfl
@[simp] theorem State.setPermit_links (t : TierNo) (b : Bool) : (s.setPermit t b).links = s.links := rfl
@[simp] theorem State.repend_links (h : Handle) : (s.repend h).links = s.links := rfl
@[simp] theorem State.stopLease_links (t : TierNo) : (s.stopLease t).links = s.links := rfl
@[simp] theorem State.lowerLeases_links : s.lowerLeases.links = s.links := rfl
@[simp] theorem State.reloadLease_links (t : TierNo) : (s.reloadLease t).links = s.links := rfl
@[simp] theorem State.track_links (t : TierNo) (p : Pose) : (s.track t p).links = s.links := rfl
@[simp] theorem State.clearFaultKind_links (t : TierNo) : (s.clearFaultKind t).links = s.links := rfl
@[simp] theorem State.placeAt_links (t : TierNo) (p : Pose) (a : Arc) : (s.placeAt t p a).links = s.links := rfl
@[simp] theorem State.returnPools_links (g : Grant) : (s.returnPools g).links = s.links := rfl
@[simp] theorem State.unbind_links (i : RecNo) (h : Handle) (r : Result) : (s.unbind i h r).links = s.links := rfl
@[simp] theorem State.grant_links (i : RecNo) (c : Claim) (g : Grant) : (s.grant i c g).links = s.links := rfl
@[simp] theorem State.castShadow_links (a : Arc) : (s.castShadow a).links = s.links := rfl
@[simp] theorem State.shadowPools_links (g : Grant) : (s.shadowPools g).links = s.links := rfl
@[simp] theorem State.settle_links : s.settle.links = s.links := rfl
@[simp] theorem State.retireActive_links (i : RecNo) (h : Handle) (g : Grant) (r : Result) (p : Pose) (a : Arc) :
    (s.retireActive i h g r p a).links = s.links := by simp [State.retireActive]
@[simp] theorem State.requestScan_links : s.requestScan.links = s.links := by rw [State.requestScan_eq]; rfl
@[simp] theorem State.closeScan_links : s.closeScan.links = s.links := by rw [State.closeScan_eq]; rfl
@[simp] theorem State.rescan_links : s.rescan.links = s.links := by rw [State.rescan_eq]; rfl
@[simp] theorem State.raise_links (k : FaultKind) (t : Option TierNo) (slot : Option SlotNo) (pose : Option Pose) :
    (s.raise k t slot pose).links = s.links := by rw [State.raise_eq]; rfl
@[simp] theorem State.stopWhere_links (p : Handle → Arc → Bool) : (s.stopWhere p).links = s.links := by
  simp [State.stopWhere_eq, State.links]
@[simp] theorem State.retireWaitingWhere_links (p : Claim → Bool) (r : Result) :
    (s.retireWaitingWhere p r).links = s.links := by
  simp [State.retireWaitingWhere_eq, State.links]

@[simp] theorem State.retireWaiting_links (i : RecNo) (r : Result) : (s.retireWaiting i r).links = s.links := by
  unfold State.retireWaiting
  split
  · rfl
  · split_ifs <;> rfl

@[simp] theorem State.stopRecord_links (i : RecNo) : (s.stopRecord i).links = s.links := by
  unfold State.stopRecord
  split
  · rfl
  · split <;> rfl

@[simp] theorem State.freezeHead_links (t : TierNo) : (s.freezeHead t).links = s.links := by
  unfold State.freezeHead
  split
  · rfl
  · split <;> rfl

@[simp] theorem State.hazardStopAround_links (t : TierNo) (space : Option Arc) :
    (s.hazardStopAround t space).links = s.links := by
  cases space <;> simp [State.hazardStopAround, State.hazardStop]

@[simp] theorem State.hardFault_links (t : TierNo) (k : HardKind) (slot : Option SlotNo) (p : Pose) :
    (s.hardFault t k slot p).links = s.links := by
  unfold State.hardFault State.hardFaultEvent
  dsimp only
  split_ifs <;> simp

/-! ### Lines, time, visits -/

@[simp] theorem State.expire_links (t : TierNo) : (s.expire t).links = s.links := by simp [State.expire]

theorem State.tickAll_links (order : List TierNo) : (s.tickAll order).links = s.links := by
  refine foldl_keeps (P := fun u => u.links = s.links) (fun u t same => ?_) (order ++ List.finRange 24) s.lowerLeases_links
  unfold State.expireIfDue
  split_ifs <;> simp [same]

theorem State.leaseExpiry_links (t : TierNo) : (s.leaseExpiry t).links = s.links := by
  unfold State.leaseExpiry
  split_ifs <;> simp

@[simp] theorem State.enterHalt_links : s.enterHalt.links = s.links := State.stopWhere_links { s with mode := .halt } _

theorem State.stopnAssert_links : s.stopnAssert.links = s.links := by
  have low : { s with stopnLow := true }.links = s.links := rfl
  unfold State.stopnAssert
  split <;> simp [low]

theorem State.visitRecord_links (i : RecNo) : (s.visitRecord i).links = s.links := by
  unfold State.visitRecord State.evaluate State.decideClaim
  split
  · rfl
  · dsimp only
    split_ifs <;> simp

theorem State.visit_links : s.visit.links = s.links := by
  unfold State.visit
  split_ifs
  · rfl
  · rfl
  · split <;> simp [State.visitRecord_links]

/-! ### What the owners of MP entries do with them -/

theorem State.checkClaim_links (h : Handle) (m : Motion) (declared : Nat) :
    (s.checkClaim h m declared).links = s.links := by
  unfold State.checkClaim State.refuseClaim
  dsimp only
  split_ifs
  · rfl
  · rfl
  · split
    · rfl
    · exact State.rescan_links _

theorem State.arriveClaim_links (h : Handle) (d : List Byte) : (s.arriveClaim h d).links = s.links := by
  unfold State.arriveClaim State.refuseClaim
  split
  · simp
  split
  · rfl
  split
  · rfl
  split
  · rfl
  split
  · rfl
  · exact s.checkClaim_links h _ _

theorem State.cancelHandle_links (h : Handle) : (s.cancelHandle h).links = s.links := by
  unfold State.cancelHandle
  split
  · simp
  · split <;> simp

@[simp] theorem State.noteClamp_links (t : TierNo) (slot : Option SlotNo) (raw : Nat) (p : Pose) :
    (s.noteClamp t slot raw p).links = s.links := by
  unfold State.noteClamp
  split_ifs <;> simp

@[simp] theorem State.noteSequence_links (t : TierNo) (seq : Nat) (p : Pose) :
    (s.noteSequence t seq p).links = s.links := by
  unfold State.noteSequence
  dsimp only
  split_ifs <;> simp

@[simp] theorem State.trimClaim_links (i : RecNo) (c : Claim) (g : Grant) (p : Nat) (phase : Grant → Phase) :
    (s.trimClaim i c g p phase).links = s.links := by
  unfold State.trimClaim
  dsimp only
  split_ifs
  · rfl
  · exact State.rescan_links _

@[simp] theorem State.retireStopped_links (i : RecNo) (h : Handle) (g : Grant) (p : Pose) :
    (s.retireStopped i h g p).links = s.links := by simp [State.retireStopped]

theorem State.containedReport_links (i : RecNo) (c : Claim) (p : Pose) (moving : Bool) :
    (s.containedReport i c p moving).links = s.links := by
  unfold State.containedReport
  split
  · simp
  · split_ifs <;> simp
  · rfl
  · rfl

theorem State.superviseMoving_links (t : TierNo) (i : RecNo) (c : Claim) (g : Grant) (p : Pose) (moving : Bool) :
    (s.superviseMoving t i c g p moving).links = s.links := by
  unfold State.superviseMoving
  dsimp only
  split_ifs <;> simp [State.containedReport_links]

theorem State.supervise_links (t : TierNo) (p : Pose) (moving drive : Bool) :
    (s.supervise t p moving drive).links = s.links := by
  unfold State.supervise
  split_ifs
  · simp
  · split
    · unfold State.superviseIdle
      split_ifs <;> simp
    iterate 2
      · split
        · rfl
        · split
          · rfl
          · exact s.superviseMoving_links t _ _ _ p moving
    all_goals rfl

theorem State.arriveReport_links (t : TierNo) (d : List Byte) : (s.arriveReport t d).links = s.links := by
  unfold State.arriveReport State.acceptReport State.handleReport
  dsimp only
  split_ifs <;> simp [State.supervise_links]

theorem State.releaseGranted_links (i : RecNo) (c : Claim) (g : Grant) (p : Pose) :
    (s.releaseGranted i c g p).links = s.links := by
  unfold State.releaseGranted
  dsimp only
  split_ifs <;> simp

theorem State.releaseChecked_links (c : Claim) (g : Grant) (d : List Byte) {done : State → Pose → State}
    (ends : ∀ s p, (done s p).links = s.links) : (s.releaseChecked c g d done).links = s.links := by
  unfold State.releaseChecked
  dsimp only
  split_ifs <;> simp [ends]

theorem State.arriveRelease_links (h : Handle) (d : List Byte) : (s.arriveRelease h d).links = s.links := by
  unfold State.arriveRelease
  split_ifs
  · split
    · simp
    · split
      · exact s.releaseChecked_links _ _ d fun s p => s.releaseGranted_links _ _ _ p
      · exact s.releaseChecked_links _ _ d fun s p => s.retireStopped_links _ _ _ p
      · rfl
      · simp
  · simp

/-! ### Console commands -/

@[simp] theorem State.enterRun_links : s.enterRun.links = s.links := State.rescan_links { s with mode := .run }

@[simp] theorem State.enterConfig_links : s.enterConfig.links = s.links := by
  have config : { s with mode := .config }.links = s.links := rfl
  simp [State.enterConfig, config]

theorem State.setModeRun_links : s.setModeRun.1.links = s.links := by
  unfold State.setModeRun
  split
  · rfl
  · rfl
  split
  · rfl
  split
  · rfl
  · exact s.enterRun_links

theorem State.setModeConfig_links : s.setModeConfig.1.links = s.links := by
  unfold State.setModeConfig
  split
  · rfl
  all_goals
    split
    · rfl
    · exact s.enterConfig_links

theorem doSetMode_links (e : CpEntry) : (doSetMode e s).1.links = s.links := by
  unfold doSetMode
  split_ifs
  · exact s.setModeRun_links
  · exact s.setModeConfig_links
  · rfl

theorem doHalt_links (e : CpEntry) : (doHalt e s).1.links = s.links := by
  unfold doHalt
  split <;> simp

theorem doResume_links (e : CpEntry) : (doResume e s).1.links = s.links := by
  unfold doResume
  split
  · rfl
  · rfl
  · split_ifs <;> simp

theorem doWriteTier_links (e : CpEntry) : (doWriteTier e s).1.links = s.links := by
  unfold doWriteTier
  split
  · rfl
  split
  · rfl
  · rfl
  · dsimp only
    split_ifs <;> rfl

theorem doReadTier_links (e : CpEntry) : (doReadTier e s).1.links = s.links := by
  unfold doReadTier
  split
  · rfl
  · split <;> rfl

theorem doSetRest_links (e : CpEntry) : (doSetRest e s).1.links = s.links := by
  unfold doSetRest
  split
  · rfl
  · split <;> rfl

theorem doAdopt_links (e : CpEntry) : (doAdopt e s).1.links = s.links := by
  unfold doAdopt
  split
  · rfl
  split
  · rfl
  · split_ifs <;> rfl

theorem doWriteGlobal_links (e : CpEntry) : (doWriteGlobal e s).1.links = s.links := by
  unfold doWriteGlobal
  split
  · rfl
  · split <;> rfl

theorem doReadGlobal_links (e : CpEntry) : (doReadGlobal e s).1.links = s.links := by
  unfold doReadGlobal
  split <;> rfl

theorem doWriteCeiling_links (e : CpEntry) : (doWriteCeiling e s).1.links = s.links := by
  unfold doWriteCeiling
  dsimp only
  split_ifs <;> simp only [State.links]

theorem doSetPool_links (e : CpEntry) : (doSetPool e s).1.links = s.links := by
  have setPool (p : PoolId) (v : Pool) : (s.setPool p v).links = s.links := by cases p <;> rfl
  unfold doSetPool State.setCapacity
  split
  · rfl
  · dsimp only
    split_ifs <;> simp [setPool]

theorem doPlaceHold_links (e : CpEntry) : (doPlaceHold e s).1.links = s.links := by
  have placeHold (k : HoldNo) (a : Arc) : (s.placeHold k a).links = s.links :=
    State.stopWhere_links (s.setHold k (some a)) _
  unfold doPlaceHold
  split
  · rfl
  · dsimp only
    exact placeHold _ _

theorem doLiftHold_links (e : CpEntry) : (doLiftHold e s).1.links = s.links := by
  unfold doLiftHold
  split
  · rfl
  · split_ifs
    · rfl
    · exact State.rescan_links _

theorem doCancelClaim_links (e : CpEntry) : (doCancelClaim e s).1.links = s.links := by
  have revoke {h : Handle} {u : State} {st : ClaimState} (e : s.revoke h = some (u, st)) : u.links = s.links := by
    unfold State.revoke at e
    split at e
    · cases e
    · split at e <;> cases e <;> simp
  unfold doCancelClaim
  split
  · rfl
  · rfl
  · split
    · rfl
    · next done => exact revoke done

theorem doClearTier_links (e : CpEntry) : (doClearTier e s).1.links = s.links := by
  have clearTier (t : TierNo) (a : Arc) : (s.clearTier t a).links = s.links := by
    unfold State.clearTier State.placeCleared
    split <;> simp
  unfold doClearTier
  split
  · rfl
  split
  · rfl
  split
  · rfl
  split
  · rfl
  · exact clearTier _ _

theorem doSetCursor_links (e : CpEntry) : (doSetCursor e s).1.links = s.links := by
  unfold doSetCursor
  split
  · rfl
  · dsimp only
    split_ifs <;> rfl

theorem doReadNext_links (e : CpEntry) : (doReadNext e s).1.links = s.links := by
  unfold doReadNext
  split <;> rfl

end Frames

/-! ### The machinery port keeps its links consistent (R154 to R161) -/

section Ports
variable {s : State} (h : s.links.Safe)
include h

theorem Links.Safe.mpReceived : s.mpReceived.links.Safe := by
  obtain ⟨port, off⟩ := h.mpPort.received
  exact h.withMpPort port fun now => h.mpTx (off now)

theorem Links.Safe.mpAccept (c : MpClass) (b : Handle) (d : List Byte) : (s.mpAccept c b d).links.Safe := by
  unfold State.mpAccept
  split_ifs with short room
  · simpa using h
  · exact h.pushMp (mpEntryOf c b d) room
  · simpa using h

theorem Links.Safe.mpArrival (f : Frame) : (s.mpArrival f).links.Safe := by
  unfold State.mpArrival State.mpIgnore
  split_ifs
  · exact h
  · exact h.mpReceived
  · split
    · exact h.mpReceived
    · exact h.mpReceived.mpAccept _ _ _
  · split
    · exact h
    · exact h.mpReceived.mpAccept _ _ _

theorem Links.Safe.mpReceiveError : { s with mpPort := s.mpPort.receiveError }.links.Safe := by
  obtain ⟨port, off⟩ := h.mpPort.receiveError
  exact h.withMpPort port fun now => h.mpTx (off now)

theorem Links.Safe.mpRecovery : { s with mpPort := s.mpPort.recover }.links.Safe := by
  obtain ⟨port, on⟩ := h.mpPort.recover
  exact h.withMpPort port fun off => absurd off on

/-- A NOTICE starts only outside BUS-OFF (R160). -/
theorem Links.Safe.noticeStart : s.noticeStart.links.Safe := by
  unfold State.noticeStart
  split_ifs with busy
  · exact h
  · split
    · exact h
    · exact { h with mpTx := fun off => absurd (.inl off) busy }

theorem Links.Safe.noticeComplete : s.noticeComplete.links.Safe := by
  unfold State.noticeComplete
  split
  · exact h
  · exact { h with mpPort := h.mpPort.sent, mpTx := fun _ => rfl }

theorem Links.Safe.noticeFail (why : TxFailure) : (s.noticeFail why).links.Safe := by
  unfold State.noticeFail
  split
  · exact h
  · exact { h with mpPort := h.mpPort.sendFailed why, mpTx := fun _ => rfl }

/-! ### An entry taken from the MP inbound FIFO (R157) -/

theorem Links.Safe.popMp {e : MpEntry} {rest : List MpEntry} (oldest : s.mpFifo = e :: rest) :
    { s with mpFifo := rest }.links.Safe := by
  have fits : s.mpFifo.length ≤ 16 := h.mpFifo
  rw [oldest] at fits
  exact { h with mpFifo := Nat.le_of_succ_le fits }

/-- What an owner does with an entry leaves the links as taking it left them. -/
theorem Links.Safe.takes {e : MpEntry} {rest : List MpEntry} (oldest : s.mpFifo = e :: rest) {p : Prop} [Decidable p]
    {done : State} (same : done.links = { s with mpFifo := rest }.links) : (if p then done else s).links.Safe := by
  split_ifs
  · exact same ▸ h.popMp oldest
  · exact h

theorem Links.Safe.discardDisabled : s.discardDisabled.links.Safe := by
  unfold State.discardDisabled
  split
  · exact h
  · next oldest =>
    split_ifs
    · exact h
    · exact h.popMp oldest

theorem Links.Safe.takeClaim : s.takeClaim.links.Safe := by
  unfold State.takeClaim
  split
  · next oldest => exact h.takes oldest (State.arriveClaim_links _ _ _)
  · exact h

theorem Links.Safe.takeCancel : s.takeCancel.links.Safe := by
  unfold State.takeCancel
  split
  · next oldest => exact h.takes oldest (State.cancelHandle_links _ _)
  · exact h

theorem Links.Safe.takeReport : s.takeReport.links.Safe := by
  unfold State.takeReport
  split
  · next oldest => exact h.takes oldest (State.arriveReport_links _ _ _)
  · exact h

theorem Links.Safe.takeRelease : s.takeRelease.links.Safe := by
  unfold State.takeRelease
  split
  · next oldest => exact h.takes oldest (State.arriveRelease_links _ _ _)
  · exact h

/-! ### The console port (R164 to R168) -/

theorem Links.Safe.cpArrival (f : Frame) : (s.cpArrival f).links.Safe := by
  obtain ⟨port, off⟩ := h.cpPort.received
  have received : { s with cpPort := s.cpPort.received }.links.Safe := h.withCpPort port fun now => h.cpTx (off now)
  unfold State.cpArrival State.cpAccept
  dsimp only
  split_ifs with off command room
  · exact h
  · exact received.pushCp ⟨f.data.take 16, f.data.length⟩ room
  · simpa using received
  · exact received

theorem Links.Safe.cpReceiveError : { s with cpPort := s.cpPort.receiveError }.links.Safe := by
  obtain ⟨port, off⟩ := h.cpPort.receiveError
  exact h.withCpPort port fun now => h.cpTx (off now)

theorem Links.Safe.cpRecovery : { s with cpPort := s.cpPort.recover }.links.Safe := by
  obtain ⟨port, on⟩ := h.cpPort.recover
  exact h.withCpPort port fun off => absurd off on

/-- A reply that starts is the oldest one (R167). -/
theorem Links.Safe.replyStart : s.replyStart.links.Safe := by
  unfold State.replyStart
  split_ifs with busy
  · exact h
  · split
    · exact h
    · next r rest oldest =>
      refine { h with inFlight := ?_, cpTx := fun off => absurd (.inl off) busy }
      rintro _ ⟨⟩
      exact congrArg List.head? oldest

theorem Links.Safe.replyComplete : s.replyComplete.links.Safe := by
  unfold State.replyComplete
  split
  · exact h
  · refine { h with replies := ?_, inFlight := nofun, cpPort := h.cpPort.sent, cpTx := fun _ => rfl }
    have shorter : s.replies.tail.length ≤ s.replies.length := (List.tail_sublist _).length_le
    exact shorter.trans h.replies

theorem Links.Safe.replyFail (why : TxFailure) : (s.replyFail why).links.Safe := by
  unfold State.replyFail
  split
  · exact h
  · exact { h with inFlight := nofun, cpPort := h.cpPort.sendFailed why, cpTx := fun _ => rfl }

/-- A command is executed while the reply FIFO has room, and leaves the links but for its entry and its reply (R166, R168). -/
theorem Links.Safe.executeIf (due : CpEntry → Bool) {run : CpEntry → State → State × Answer}
    (same : ∀ s e, (run e s).1.links = s.links) : (s.executeIf due run).links.Safe := by
  unfold State.executeIf
  split
  · exact h
  · next e rest oldest =>
    split_ifs with now
    · have room : s.replies.length < 16 := of_decide_eq_true (Bool.and_eq_true_iff.mp now).1
      have fits : s.cpFifo.length ≤ 16 := h.cpFifo
      rw [oldest] at fits
      have ran : (run e { s with cpFifo := rest }).1.links.Safe := by
        rw [same]
        exact { h with cpFifo := Nat.le_of_succ_le fits }
      refine ran.pushReply _ ?_
      rw [same]
      exact room
    · exact h

/-! ### Every event -/

theorem Links.Safe.powered {f : State → State} (acts : (f s).links.Safe) : (s.powered f).links.Safe :=
  State.powered_cases (P := fun u => u.links.Safe) h acts

theorem Links.Safe.powered_same {f : State → State} (same : (f s).links = s.links) : (s.powered f).links.Safe :=
  h.powered (same ▸ h)

theorem Links.Safe.command (code : Nat) {run : CpEntry → State → State × Answer}
    (same : ∀ s e, (run e s).1.links = s.links) : (s.powered fun s => s.execute code run).links.Safe :=
  h.powered (h.executeIf _ same)

omit h in
theorem links_safe_of_next {v u : State} (e : (Host.Outcome.next v : Host.Outcome State Fault Refusal) = .next u)
    (h : v.links.Safe) : u.links.Safe :=
  Host.Outcome.next.inj e ▸ h

theorem exec_links_safe {i : Instr} {u : State} (e : exec i s = .next u) : u.links.Safe := by
  cases i with
  | powerOnReset cause low =>
    refine links_safe_of_next e ?_
    cases cause <;> exact s.powerOnValues_links _ low
  | resetnRisingEdge straps low => exact links_safe_of_next e (s.powerOnValues_links straps low)
  | stopnAssertion => exact links_safe_of_next e (h.powered_same s.stopnAssert_links)
  | stopnRelease => exact links_safe_of_next e (h.powered_same rfl)
  | tick order => exact links_safe_of_next e (h.powered_same (s.tickAll_links order))
  | leaseExpiry t => exact links_safe_of_next e (h.powered_same (s.leaseExpiry_links t))
  | mpFrameArrival f => exact links_safe_of_next e (h.powered (h.mpArrival f))
  | mpReceiveError => exact links_safe_of_next e (h.powered h.mpReceiveError)
  | busOffRecovery => exact links_safe_of_next e (h.powered h.mpRecovery)
  | disabledEntryDiscard => exact links_safe_of_next e (h.powered h.discardDisabled)
  | claim => exact links_safe_of_next e (h.powered h.takeClaim)
  | cancel => exact links_safe_of_next e (h.powered h.takeCancel)
  | report => exact links_safe_of_next e (h.powered h.takeReport)
  | release => exact links_safe_of_next e (h.powered h.takeRelease)
  | visit => exact links_safe_of_next e (h.powered_same s.visit_links)
  | noticeStart => exact links_safe_of_next e (h.powered h.noticeStart)
  | noticeCompletion => exact links_safe_of_next e (h.powered h.noticeComplete)
  | noticeFailure why => exact links_safe_of_next e (h.powered (h.noticeFail why))
  | cpCommandArrival f => exact links_safe_of_next e (h.powered (h.cpArrival f))
  | cpReceiveError => exact links_safe_of_next e (h.powered h.cpReceiveError)
  | cpBusOffRecovery => exact links_safe_of_next e (h.powered h.cpRecovery)
  | replyStart => exact links_safe_of_next e (h.powered h.replyStart)
  | replyCompletion => exact links_safe_of_next e (h.powered h.replyComplete)
  | replyFailure why => exact links_safe_of_next e (h.powered (h.replyFail why))
  | unknownCommand => exact links_safe_of_next e (h.powered (h.executeIf _ fun _ _ => rfl))
  | readStatus => exact links_safe_of_next e (h.command 0x01 (run := doReadStatus) fun _ _ => rfl)
  | setMask => exact links_safe_of_next e (h.command 0x02 (run := doSetMask) fun _ _ => rfl)
  | readFault => exact links_safe_of_next e (h.command 0x03 (run := doReadFault) fun _ _ => rfl)
  | clearFault => exact links_safe_of_next e (h.command 0x04 (run := doClearFault) fun _ _ => rfl)
  | setMode => exact links_safe_of_next e (h.command 0x05 doSetMode_links)
  | halt => exact links_safe_of_next e (h.command 0x06 doHalt_links)
  | resume => exact links_safe_of_next e (h.command 0x07 doResume_links)
  | softReset => exact links_safe_of_next e (h.command 0x08 (run := doSoftReset) fun _ _ => rfl)
  | writeTier => exact links_safe_of_next e (h.command 0x10 doWriteTier_links)
  | readTier => exact links_safe_of_next e (h.command 0x11 doReadTier_links)
  | setRest => exact links_safe_of_next e (h.command 0x12 doSetRest_links)
  | adopt => exact links_safe_of_next e (h.command 0x13 doAdopt_links)
  | writeGlobal => exact links_safe_of_next e (h.command 0x14 doWriteGlobal_links)
  | readGlobal => exact links_safe_of_next e (h.command 0x15 doReadGlobal_links)
  | writeCeiling => exact links_safe_of_next e (h.command 0x16 doWriteCeiling_links)
  | setPool => exact links_safe_of_next e (h.command 0x20 doSetPool_links)
  | placeHold => exact links_safe_of_next e (h.command 0x21 doPlaceHold_links)
  | liftHold => exact links_safe_of_next e (h.command 0x22 doLiftHold_links)
  | cancelClaim => exact links_safe_of_next e (h.command 0x23 doCancelClaim_links)
  | clearTier => exact links_safe_of_next e (h.command 0x24 doClearTier_links)
  | setCursor => exact links_safe_of_next e (h.command 0x30 doSetCursor_links)
  | readNext => exact links_safe_of_next e (h.command 0x31 doReadNext_links)

end Ports

/-- Settles O59: the events of the ports and the takers of FIFO entries keep the links consistent, a power-on reset makes them
so, and every other event leaves them, but for the entry and the reply of a console command. -/
theorem stepKeepsPortsConsistent : Obligations.StepKeepsPortsConsistent := by
  intro s u h e
  have links := State.links_safe_iff.mpr h
  unfold step at e
  split at e
  · exact State.links_safe_iff.mp (links_safe_of_next e links)
  · next rest _ => exact State.links_safe_iff.mp (exec_links_safe (s := { s with pending := rest }) links e)

end Sys2Proof.Machine
end

section
/-! SUPPORT. The events of the machinery port and of both ports' links, each as what it does (R152 to R161, R164), and the frames
and codes of a NOTICE (R153, R176, R179). -/

namespace Sys2Proof.Machine

/-! ### Identifiers of the classes that drives send (R153) -/

/-- The handle that an identifier of a class gives back: a REPORT names no slot (R153). -/
def MpClass.named (c : MpClass) (h : Handle) : Handle :=
  match c with
  | .report => ⟨h.tier, 0⟩
  | .claim | .cancel | .release => h

@[simp] theorem MpClass.named_tier (c : MpClass) (h : Handle) : (c.named h).tier = h.tier := by
  cases c <;> rfl

/-- A handle from an identifier at the place of its mailbox above the class's base. -/
theorem handleOfIndex_ofNat {n : Nat} {h : Handle} (e : n = 4 * h.tier.val + h.slot.val) :
    handleOfIndex (Fin.ofNat 96 n) = h := by
  have index : Fin.ofNat 96 n = handleIndex h := Fin.ext ((Nat.mod_eq_of_lt (e ▸ (handleIndex h).isLt)).trans e)
  rw [index, handleOfIndex_handleIndex]

theorem classify_ident (c : MpClass) (h : Handle) : classify (c.ident h) = some (c, c.named h) := by
  have tier := h.tier.isLt
  have slot := h.slot.isLt
  cases c with
  | report =>
    have low : 0x080 ≤ 0x080 + h.tier.val ∧ 0x080 + h.tier.val ≤ 0x097 := by omega
    have read : Fin.ofNat 24 (0x080 + h.tier.val - 0x080) = h.tier := by
      rw [Nat.add_sub_cancel_left]
      exact Fin.ofNat_val_eq_self _
    simp only [classify, MpClass.ident, MpClass.named, if_pos low, read]
  | claim =>
    rw [classify, MpClass.ident, if_neg (by omega), if_pos (by omega), handleOfIndex_ofNat (h := h) (by omega)]
    rfl
  | cancel =>
    rw [classify, MpClass.ident, if_neg (by omega), if_neg (by omega), if_pos (by omega),
      handleOfIndex_ofNat (h := h) (by omega)]
    rfl
  | release =>
    rw [classify, MpClass.ident, if_neg (by omega), if_neg (by omega), if_neg (by omega), if_pos (by omega),
      handleOfIndex_ofNat (h := h) (by omega)]
    rfl

/-- Every identifier of the four classes is that of a class and a handle. -/
theorem ident_of_classify {n : Nat} {c : MpClass} {h : Handle} (e : classify n = some (c, h)) : n = c.ident h := by
  unfold classify at e
  split_ifs at e <;> cases e
  · change n = 0x080 + (n - 0x080) % 24
    omega
  · change n = 0x200 + 4 * ((n - 0x200) % 96 / 4) + (n - 0x200) % 96 % 4
    omega
  · change n = 0x280 + 4 * ((n - 0x280) % 96 / 4) + (n - 0x280) % 96 % 4
    omega
  · change n = 0x300 + 4 * ((n - 0x300) % 96 / 4) + (n - 0x300) % 96 % 4
    omega

/-! ### Frames that arrive (R152 to R159) -/

section Arrival
variable {s : State} {f : Frame}

theorem State.mpPasses_eq_some {c : MpClass} {h : Handle} (ident : f.ident = c.ident h)
    (enabled : (s.tier h.tier).cfg.enabled = true) : s.mpPasses f.ident = some (c, c.named h) := by
  simp only [State.mpPasses, ident, classify_ident, MpClass.named_tier, enabled, if_true]

/-- The filter passes no frame but one of a drive's class that names an enabled tier (R154). -/
theorem State.mpPasses_eq_none
    (disabled : ∀ (c : MpClass) h, f.ident = c.ident h → (s.tier h.tier).cfg.enabled = false) :
    s.mpPasses f.ident = none := by
  unfold State.mpPasses
  split
  · rfl
  · next c h found => rw [disabled c h (ident_of_classify found), if_neg Bool.false_ne_true]

/-- In BUS-OFF no frame is seen (R159). -/
theorem State.mpArrival_busOff (off : s.mpPort.link = .busOff) : s.mpArrival f = s := if_pos off

section Seen
variable (on : s.mpPort.link ≠ .busOff)
include on

/-- A frame with a 29-bit identifier or a remote request frame is received and ignored (R152). -/
theorem State.mpArrival_ignored (ignored : f.extended = true ∨ f.remote = true) : s.mpArrival f = s.mpReceived := by
  rw [State.mpArrival, if_neg on, if_pos (Bool.or_eq_true_iff.mpr ignored)]

variable (base : f.extended = false) (data : f.remote = false)
include base data

/-- A frame that the filter passes is received, then checked and stored (R154 to R156). -/
theorem State.mpArrival_passed {c : MpClass} {h : Handle} (ident : f.ident = c.ident h)
    (enabled : (s.tier h.tier).cfg.enabled = true) : s.mpArrival f = s.mpReceived.mpAccept c (c.named h) f.data := by
  rw [State.mpArrival, if_neg on, base, data, Bool.or_false, if_neg Bool.false_ne_true, State.mpPasses_eq_some ident enabled]

theorem State.mpArrival_dropped
    (disabled : ∀ (c : MpClass) h, f.ident = c.ident h → (s.tier h.tier).cfg.enabled = false) :
    s.mpArrival f = s.mpIgnore := by
  rw [State.mpArrival, if_neg on, base, data, Bool.or_false, if_neg Bool.false_ne_true, State.mpPasses_eq_none disabled]

end Seen

/-- Log 6 leaves open which of the two it is. -/
theorem State.mpIgnore_cases (s : State) : s.mpIgnore = s ∨ s.mpIgnore = s.mpReceived := by
  unfold State.mpIgnore
  split_ifs
  · exact .inr rfl
  · exact .inl rfl

end Arrival

section Accept
variable (s : State) (c : MpClass) (h : Handle) {d : List Byte}

theorem State.mpAccept_short (short : d.length < c.neededLength) :
    s.mpAccept c h d = (s.raise .protocol (some h.tier) (c.faultSlot h) none).settle := if_pos short

variable (long : c.neededLength ≤ d.length)
include long

theorem State.mpAccept_room (room : s.mpFifo.length < 16) :
    s.mpAccept c h d = { s with mpFifo := s.mpFifo ++ [mpEntryOf c h d] } := by
  rw [State.mpAccept, if_neg (Nat.not_lt.mpr long), if_pos room]

theorem State.mpAccept_full (full : s.mpFifo.length = 16) :
    s.mpAccept c h d = (s.raise .rxLost (some h.tier) none none).settle := by
  rw [State.mpAccept, if_neg (Nat.not_lt.mpr long), if_neg (by omega)]

end Accept

/-- Settles O8: the identifier gives back the class and the tier, so the frame passes the filter; then it is short, or the FIFO
has room, or it is full. -/
theorem mpFrameOfEnabledTier : Obligations.MpFrameOfEnabledTier := by
  refine ⟨fun c h f s high on base data ident enabled long room => ?_,
    fun c h f s high on base data ident enabled => ⟨fun short => ?_, fun long full => ?_⟩⟩
  all_goals rw [exec_mpFrameArrival f high, State.mpArrival_passed on base data ident enabled]
  · rw [State.mpAccept_room s.mpReceived c (c.named h) long room]
    cases c <;> rfl
  · rw [State.mpAccept_short s.mpReceived c (c.named h) short]
    cases c <;> rfl
  · rw [State.mpAccept_full s.mpReceived c (c.named h) long full, MpClass.named_tier]
    rfl

/-- Settles O9: BUS-OFF; a 29-bit or remote frame; a frame that the filter drops, with the count as it stays open; an entry whose
tier is disabled. -/
theorem mpFrameIgnoredWithoutRecord : Obligations.MpFrameIgnoredWithoutRecord := by
  refine ⟨fun f s high => ?_, fun s e rest high oldest disabled => ?_⟩
  · rw [exec_mpFrameArrival f high]
    refine ⟨fun off => congrArg _ (State.mpArrival_busOff off), fun on ignored => congrArg _ (State.mpArrival_ignored on ignored),
      fun on base data disabled => ?_⟩
    rw [State.mpArrival_dropped on base data disabled]
    exact s.mpIgnore_cases.imp (congrArg _) (congrArg _)
  · rw [exec_disabledEntryDiscard high]
    simp only [State.discardDisabled, oldest, disabled, if_neg Bool.false_ne_true]

/-! ### Counts and link states (R158, R159, R164) -/

section Port
variable {p : Port}

theorem Port.receiveError_seen (on : p.link ≠ .busOff) :
    p.receiveError = { p with rxErrors := min 255 (p.rxErrors + 1) }.relink := if_neg on

theorem Port.receiveError_busOff (off : p.link = .busOff) : p.receiveError = p := if_pos off

theorem Port.recover_busOff (off : p.link = .busOff) :
    p.recover = { p with txErrors := 0, rxErrors := 0, link := .onLine } := if_pos off

/-- The link state by the thresholds 128 and 256 (R158). -/
theorem Port.relink_link_iff (p : Port) :
    (p.relink.link = .onLine ↔ p.txErrors < 128 ∧ p.rxErrors < 128) ∧
      (p.relink.link = .passive ↔ (128 ≤ p.txErrors ∨ 128 ≤ p.rxErrors) ∧ p.txErrors ≤ 255) ∧
      (p.relink.link = .busOff ↔ 256 ≤ p.txErrors) := by
  unfold Port.relink
  dsimp only
  split_ifs with off passive
  all_goals
    simp only [false_iff, true_iff]
    omega

end Port

/-- Settles O10: for each port an error, seen or in BUS-OFF, and a recovery; then the thresholds. -/
theorem linkErrorsAndRecoveries : Obligations.LinkErrorsAndRecoveries := by
  refine ⟨fun s high => ?_, fun p => ⟨rfl, rfl, rfl, p.relink_link_iff⟩⟩
  rw [exec_mpReceiveError high, exec_busOffRecovery high, exec_cpReceiveError high, exec_cpBusOffRecovery high]
  refine ⟨fun on => ?_, fun off => ?_, fun off => ?_, fun on => ?_, fun off => ?_, fun off => ?_⟩
  · rw [Port.receiveError_seen on]
  · rw [Port.receiveError_busOff off]
  · rw [Port.recover_busOff off]
  · rw [Port.receiveError_seen on]
  · rw [Port.receiveError_busOff off]
  · rw [Port.recover_busOff off]

/-! ### NOTICEs (R160, R161) -/

section Notice
variable {s : State}

/-- The selection takes the lowest pending mailbox number, which has the lowest identifier (R153, R160). -/
theorem State.lowestPending_eq_some {m : Fin 96} (pending : s.mailboxes[m].pending = true)
    (lowest : ∀ k : Fin 96, k < m → s.mailboxes[k].pending = false) : s.lowestPending = some m :=
  find?_eq_some_of_pairwise (List.pairwise_lt_finRange 96) (List.mem_finRange m) pending fun k _ lt =>
    Bool.not_eq_true _ ▸ lowest k lt

theorem State.noticeStart_due {m : Fin 96} (on : s.mpPort.link ≠ .busOff) (quiet : s.mpTx = none)
    (selected : s.lowestPending = some m) : s.noticeStart =
      { s with
        mailboxes := s.mailboxes.set m { s.mailboxes[m] with pending := false }
        mpTx := some { handle := handleOfIndex m, state := s.mailboxes[m].state, result := s.mailboxes[m].result } } := by
  have idle : ¬(s.mpPort.link = .busOff ∨ s.mpTx.isSome = true) := by simp [on, quiet]
  rw [State.noticeStart, if_neg idle, selected]
  simp only [State.setMailbox, State.mailbox, handleIndex_handleOfIndex]

variable {n : NoticeTx} (sent : s.mpTx = some n)
include sent

theorem State.noticeComplete_sent : s.noticeComplete = { s with mpTx := none, mpPort := s.mpPort.sent } := by
  rw [State.noticeComplete, sent]

theorem State.noticeFail_sent (why : TxFailure) :
    s.noticeFail why = { s.repend n.handle with mpTx := none, mpPort := s.mpPort.sendFailed why } := by
  rw [State.noticeFail, sent]

end Notice

/-- A transmit error counts in ON-LINE whatever it is, and elsewhere unless an acknowledgement is missing (R158). -/
theorem Port.sendFailed_counted {p : Port} {e : LinkError} (counts : p.link = .onLine ∨ e ≠ .acknowledgement) :
    p.sendFailed (.error e) = p.sendError := by
  cases e with
  | acknowledgement => exact if_pos (counts.resolve_right (not_not.mpr rfl))
  | _ => rfl

/-- In PASSIVE a missing acknowledgement does not count (R158). -/
theorem Port.sendFailed_passive {p : Port} (passive : p.link = .passive) :
    p.sendFailed (.error .acknowledgement) = p := if_neg (by rw [passive]; nofun)

/-- Settles O11: the start; the completion and the failures by cause; the frame and its codes. -/
theorem noticeStartsCompletesOrFails : Obligations.NoticeStartsCompletesOrFails := by
  refine ⟨fun s m high on quiet pending lowest => ?_, fun s n high sent => ⟨?_, ?_, fun passive => ?_, fun e counts => ?_⟩,
    fun n => rfl, by decide, by decide⟩
  · rw [exec_noticeStart high, State.noticeStart_due on quiet (State.lowestPending_eq_some pending lowest)]
  · rw [exec_noticeCompletion high, State.noticeComplete_sent sent]
    rfl
  · rw [exec_noticeFailure _ high, State.noticeFail_sent sent]
    rfl
  · rw [exec_noticeFailure _ high, State.noticeFail_sent sent, Port.sendFailed_passive passive]
    rfl
  · rw [exec_noticeFailure _ high, State.noticeFail_sent sent, Port.sendFailed_counted counts]
    rfl

end Sys2Proof.Machine
end

section
/-! SUPPORT. The console's cursor: SET_CURSOR, and READ_NEXT on the six tables (R171, R172, 11.3.3). -/

namespace Sys2Proof.Machine

/-! ### SET_CURSOR (R171) -/

theorem tableOfCode_of_lt {n : Nat} (h : 5 < n) : tableOfCode n = none := by
  unfold tableOfCode
  split <;> simp at *

/-- A table code leads back to itself (R179). -/
theorem code_of_tableOfCode {n : Nat} {t : TableId} (h : tableOfCode n = some t) : t.code = n := by
  unfold tableOfCode at h
  split at h <;> cases h <;> rfl

section SetCursor
variable {s : State} {e : CpEntry} {rest : List CpEntry} (due : s.CommandDue e rest 0x30)
include due

theorem exec_setCursor_range (bad : 5 < byteAt e.data 2) : exec .setCursor s = .next (s.refusal e rest .range) := by
  rw [exec_setCursor due, doSetCursor, tableOfCode_of_lt bad, State.afterCommand_refuse]

variable {n : Nat} {t : TableId} (table : tableOfCode n = some t) (arg : byteAt e.data 2 = n)
include table arg

/-- The two rows of a table: an index past its last is refused, any other is where the cursor goes. -/
theorem exec_setCursor_rows :
    (t.lastIndex < word16At e.data 3 → exec .setCursor s = .next (s.refusal e rest .range)) ∧
      (word16At e.data 3 ≤ t.lastIndex → exec .setCursor s = .next (s.answer e rest
        (fun s => { s with cursor := { table := t, index := word16At e.data 3 } }) .ok
        (u8 n ++ u16 (word16At e.data 3)))) := by
  rw [exec_setCursor due, doSetCursor, arg, table]
  dsimp only
  refine ⟨fun past => ?_, fun within => ?_⟩
  · rw [if_pos past, State.afterCommand_refuse]
  · rw [if_neg (Nat.not_lt.mpr within), code_of_tableOfCode table, ← State.afterCommand_of]

end SetCursor

/-- Settles O47: the table argument, then the index against the last one of each table. -/
theorem setCursorByRow : Obligations.SetCursorByRow := by
  intro s e rest due index
  refine ⟨exec_setCursor_range due, ?_⟩
  simp only [List.forall_mem_cons, List.not_mem_nil, false_imp_iff, implies_true, and_true]
  exact ⟨exec_setCursor_rows due (t := .tiers) rfl, exec_setCursor_rows due (t := .claims) rfl,
    exec_setCursor_rows due (t := .waitList) rfl, exec_setCursor_rows due (t := .holds) rfl,
    exec_setCursor_rows due (t := .ceiling) rfl, exec_setCursor_rows due (t := .mailboxes) rfl⟩

/-! ### Entries under the cursor (R172, 11.3.3) -/

/-- The first index past the end of a table: for the wait list, its length (R172). -/
def State.tableEnd (s : State) : TableId → Nat
  | .waitList => s.waitList.length
  | .tiers => 24
  | .claims => 64
  | .holds => 8
  | .ceiling => 256
  | .mailboxes => 96

section Entries
variable {s : State} {c : Cursor}

theorem State.entryAt_past (past : s.tableEnd c.table ≤ c.index) : s.entryAt c = none := by
  obtain ⟨table, i⟩ := c
  cases table with
  | waitList => simp only [State.entryAt, List.getElem?_eq_none past]
  | tiers | claims | holds | mailboxes => exact dif_neg (Nat.not_lt.mpr past)
  | ceiling => exact if_neg (Nat.not_lt.mpr past)

theorem State.entryAt_tier (table : c.table = .tiers) {t : TierNo} (index : c.index = t.val) :
    s.entryAt c = some (.of .ok (s.tierEntry t), 1) := by
  obtain ⟨_, _⟩ := c
  cases table
  cases index
  exact dif_pos t.isLt

theorem State.entryAt_wait (table : c.table = .waitList) {j : RecNo} (listed : s.waitList[c.index]? = some j) :
    s.entryAt c = some (.of .ok (s.waitEntry c.index j), 1) := by
  rw [State.entryAt, table]
  dsimp only
  rw [listed]

theorem State.entryAt_hold (table : c.table = .holds) {k : HoldNo} (index : c.index = k.val) :
    s.entryAt c = some (.of .ok (s.holdEntry k), 1) := by
  obtain ⟨_, _⟩ := c
  cases table
  cases index
  exact dif_pos k.isLt

theorem State.entryAt_ceiling (table : c.table = .ceiling) (within : c.index < 256) :
    s.entryAt c = some (.of .ok (s.ceilingEntry c.index), ceilingStep c.index) := by
  rw [State.entryAt, table]
  exact if_pos within

theorem State.entryAt_mailbox (table : c.table = .mailboxes) {h : Handle} (index : c.index = 4 * h.tier.val + h.slot.val) :
    s.entryAt c = some (.of .ok (s.mailboxEntry (handleIndex h)), 1) := by
  obtain ⟨_, _⟩ := c
  cases table
  cases index
  exact dif_pos (handleIndex h).isLt

end Entries

/-! ### The bytes of an entry (11.3.3) -/

/-- Slots packed two bits each are the digits of a number to the base 4. -/
theorem packBits_slots (l : List SlotNo) :
    packBits (l.map fun k => (2, k.val)) = l.foldr (fun k acc => k.val + 4 * acc) 0 := by
  induction l with
  | nil => rfl
  | cons k l ih =>
    have digit : k.val % 2 ^ 2 = k.val := Nat.mod_eq_of_lt k.isLt
    rw [List.map_cons, packBits_cons, ih, digit]
    rfl

theorem State.ceilingEntry_eq (s : State) {i : Nat} (within : i < 256) :
    s.ceilingEntry i = u8 i ++ u8 (min 6 (256 - i)) ++
      (List.range (min 6 (256 - i))).flatMap fun k => u16 (s.ceilings.getD (i + k) 0) := by
  have sector {k : Nat} (hk : k ∈ List.range (min 6 (256 - i))) :
      s.ceilings[Fin.ofNat 256 (i + k)] = s.ceilings.getD (i + k) 0 := by
    have below : i + k < 256 := by
      have few := List.mem_range.mp hk
      omega
    simp [Vector.getD, below, Nat.mod_eq_of_lt below]
  rw [State.ceilingEntry, ceilingStep]
  exact congrArg _ (List.flatMap_congr fun k hk => congrArg u16 (sector hk))

theorem State.mailboxEntry_handleIndex (s : State) (h : Handle) :
    s.mailboxEntry (handleIndex h) = u8 h.tier.val ++ u8 h.slot.val ++ u8 (s.mailbox h).state.code ++
      u8 (s.mailbox h).result.code ++ u8 (bit (s.mailbox h).pending) := by
  simp only [State.mailboxEntry, handleOfIndex_handleIndex]

/-! ### READ_NEXT (R172) -/

section ReadNext
variable {s : State} {e : CpEntry} {rest : List CpEntry} (due : s.CommandDue e rest 0x31)
include due

/-- An entry is answered, and the cursor moves on by its step. -/
theorem exec_readNext_entry {bytes : List Byte} {step : Nat} (entry : s.entryAt s.cursor = some (.of .ok bytes, step)) :
    exec .readNext s = .next (s.answer e rest
      (fun s => { s with cursor := { s.cursor with index := s.cursor.index + step } }) .ok bytes) := by
  rw [exec_readNext due, doReadNext_some (s := { s with cpFifo := rest }) entry, ← State.afterCommand_of]

/-- Past the end of the table the answer is END, and the cursor stays. -/
theorem exec_readNext_past (past : s.tableEnd s.cursor.table ≤ s.cursor.index) :
    exec .readNext s =
      .next (s.answer e rest id .ended (u8 s.cursor.table.code ++ u16 s.cursor.index)) := by
  have absent : { s with cpFifo := rest }.entryAt s.cursor = none := State.entryAt_past past
  rw [exec_readNext due, doReadNext, absent, ← State.afterCommand_of]
  rfl

end ReadNext

/-- Settles O48: the end of each table, then the bytes of its entries. -/
theorem readNextReturnsTheEntry : Obligations.ReadNextReturnsTheEntry := by
  intro s e rest due i moved ended
  have past {t : TableId} (table : s.cursor.table = t) : ended (s.tableEnd t) :=
    fun h => exec_readNext_past due (table ▸ h)
  refine ⟨fun table => ⟨past table, fun t index => ?_⟩, past, fun table => ⟨past table, fun j c listed holds => ?_⟩,
    fun table => ⟨past table, fun k index => ⟨fun free => ?_, fun a held => ?_⟩⟩,
    fun table => ⟨past table, fun within => ?_⟩, fun table => ⟨past table, fun h index => ?_⟩⟩
  · rw [exec_readNext_entry due (State.entryAt_tier table index), index, State.tierEntry, packBits_slots]
    dsimp only [Tier.placed]
    cases (s.tier t).fault <;> cases (s.tier t).standing <;> rfl
  · have bound : s.record j = some c := holds
    rw [exec_readNext_entry due (State.entryAt_wait table listed), State.waitEntry, bound]
  · rw [exec_readNext_entry due (State.entryAt_hold table index), State.holdEntry, free, index]
  · rw [exec_readNext_entry due (State.entryAt_hold table index), State.holdEntry, held, index]
  · rw [exec_readNext_entry due (State.entryAt_ceiling table within), s.ceilingEntry_eq within]
    rfl
  · rw [exec_readNext_entry due (State.entryAt_mailbox table index), s.mailboxEntry_handleIndex h]

end Sys2Proof.Machine
end

section
/-! SUPPORT. The console port: frames arriving, replies, commands that are unknown or find no room (R164 to R168). -/

namespace Sys2Proof.Machine

/-! ### Arrivals (R164, R165) -/

section Arrival
variable {s : State} {f : Frame}

theorem State.cpArrival_busOff (off : s.cpPort.link = .busOff) : s.cpArrival f = s := if_pos off

variable (on : s.cpPort.link ≠ .busOff)
include on

theorem State.cpArrival_command (command : f.ident = 0x010 ∧ f.extended = false ∧ f.remote = false) :
    s.cpArrival f = { s with cpPort := s.cpPort.received }.cpAccept f.data := by
  rw [State.cpArrival, if_neg on]
  exact if_pos command

theorem State.cpArrival_ignored (other : ¬(f.ident = 0x010 ∧ f.extended = false ∧ f.remote = false)) :
    s.cpArrival f = { s with cpPort := s.cpPort.received } := by
  rw [State.cpArrival, if_neg on]
  exact if_neg other

end Arrival

theorem State.cpAccept_room {s : State} {d : List Byte} (room : s.cpFifo.length < 16) :
    s.cpAccept d = { s with cpFifo := s.cpFifo ++ [{ data := d.take 16, length := d.length }] } := if_pos room

theorem State.cpAccept_full {s : State} {d : List Byte} (full : s.cpFifo.length = 16) :
    s.cpAccept d = (s.raise .rxLost none none none).settle := if_neg full.not_lt

/-- Settles O27: the link, then the kind of frame, then the room in the inbound FIFO. -/
theorem cpFrameArrival : Obligations.CpFrameArrival := by
  intro f s high s' isCommand
  rw [exec_cpCommandArrival f high]
  refine ⟨fun off => ?_, fun on => ⟨fun command room => ?_, fun command full => ?_, fun other => ?_⟩⟩
  · rw [State.cpArrival_busOff off]
  · rw [State.cpArrival_command on command]
    exact congrArg Host.Outcome.next (State.cpAccept_room (s := s') room)
  · rw [State.cpArrival_command on command]
    exact congrArg Host.Outcome.next (State.cpAccept_full (s := s') full)
  · rw [State.cpArrival_ignored on other]
    rfl

/-! ### Replies (R167) -/

theorem State.replyStart_due {s : State} {r : Reply} {rest : List Reply} (on : s.cpPort.link ≠ .busOff)
    (quiet : s.cpTx = none) (oldest : s.replies = r :: rest) : s.replyStart = { s with cpTx := some r } := by
  have idle : ¬(s.cpPort.link = .busOff ∨ s.cpTx.isSome = true) := by simp [on, quiet]
  rw [State.replyStart, if_neg idle, oldest]

section Sent
variable {s : State} {r : Reply} (sent : s.cpTx = some r)
include sent

theorem State.replyComplete_sent :
    s.replyComplete = { s with cpTx := none, replies := s.replies.tail, cpPort := s.cpPort.sent } := by
  rw [State.replyComplete, sent]

theorem State.replyFail_sent (why : TxFailure) :
    s.replyFail why = { s with cpTx := none, cpPort := s.cpPort.sendFailed why } := by
  rw [State.replyFail, sent]

end Sent

/-- Settles O28: the start; the completion and the failures by cause; the frame and its codes. -/
theorem replyStartsCompletesOrFails : Obligations.ReplyStartsCompletesOrFails := by
  refine ⟨fun s r rest high on quiet oldest => ?_,
    fun s r rest high sent oldest => ⟨?_, ?_, fun passive => ?_, fun e counts => ?_⟩, fun r => rfl, by decide⟩
  · rw [exec_replyStart high, State.replyStart_due on quiet oldest]
  · rw [exec_replyCompletion high, State.replyComplete_sent sent, oldest]
    rfl
  · rw [exec_replyFailure _ high, State.replyFail_sent sent]
    rfl
  · rw [exec_replyFailure _ high, State.replyFail_sent sent, Port.sendFailed_passive passive]
  · rw [exec_replyFailure _ high, State.replyFail_sent sent, Port.sendFailed_counted counts]
    rfl

/-! ### Commands that are unknown or find no room (R166, R168) -/

/-- The oldest entry is executed if `due` says so and its reply has room (R166, R168). -/
theorem State.executeIf_due {s : State} {e : CpEntry} {rest : List CpEntry} {due : CpEntry → Bool}
    (run : CpEntry → State → State × Answer) (oldest : s.cpFifo = e :: rest) (room : s.replies.length < 16)
    (now : due e = true) : s.executeIf due run = State.afterCommand e (run e { s with cpFifo := rest }) := by
  rw [State.executeIf, oldest]
  exact if_pos (Bool.and_eq_true_iff.mpr ⟨decide_eq_true room, now⟩)

/-- With 16 replies waiting no command acts, whether RESETN is low or high (R143, R168). -/
theorem State.powered_executeIf_full {s : State} (full : 16 ≤ s.replies.length) (due : CpEntry → Bool)
    (run : CpEntry → State → State × Answer) : (s.powered fun s => s.executeIf due run) = s :=
  State.powered_cases (P := fun u => u = s) rfl (State.executeIf_full full due run)

/-- A frame that fails check 1 or check 2 of R166. -/
theorem CpEntry.isKnown_eq_false {e : CpEntry} (fails : e.length < 16 ∨ e.code ∉ commandCodes) : e.isKnown = false := by
  rw [CpEntry.isKnown, Bool.and_eq_false_iff, decide_eq_false_iff_not, List.contains_eq_mem, decide_eq_false_iff_not]
  exact fails.imp_left Nat.not_le.mpr

/-- Settles O29: an unknown command is one that does nothing; a full reply FIFO holds up each command alike. -/
theorem unknownCommandsAndFullReplyFifo : Obligations.UnknownCommandsAndFullReplyFifo := by
  refine ⟨fun s e rest high oldest room fails => ?_, fun s full i command => ?_⟩
  · have unknown : (!e.isKnown) = true := by rw [CpEntry.isKnown_eq_false fails, Bool.not_false]
    rw [exec_unknownCommand high, State.executeIf_due doUnknown oldest room unknown, doUnknown, State.afterCommand_refuse]
  · have waits {due : CpEntry → Bool} {run : CpEntry → State → State × Answer} :=
      congrArg (Host.Outcome.next (φ := Fault) (ρ := Refusal)) (State.powered_executeIf_full full due run)
    fin_cases command <;> exact waits

end Sys2Proof.Machine
end

section
/-! SUPPORT. The attention flags and ATTN by their conditions, READ_STATUS and SET_MASK (R170, R173, R174). -/

namespace Sys2Proof.Machine

/-! ### Flags and ATTN (R173, R174) -/

/-- The hard kinds by name (R123). -/
theorem FaultKind.isHard_iff_mem {k : FaultKind} : k.isHard = true ↔
    k ∈ [FaultKind.tier .lease, .tier .contain, .tier .envelope, .tier .creep, .tier .drive, .hallStop] := by
  cases k with
  | tier k => cases k <;> decide
  | _ => decide

section Conditions
variable {s : State}

theorem State.conditions_fault_iff : s.conditions.fault = true ↔ ∃ r, s.capture = some r :=
  Option.isSome_iff_exists

theorem State.conditions_hard_iff : s.conditions.hard = true ↔ ∃ r, s.capture = some r ∧ r.kind.isHard = true := by
  simp only [State.conditions, Option.any_eq_true]

theorem State.conditions_overdrawn_iff : s.conditions.overdrawn = true ↔
    s.hyd.capacity < s.hyd.committed ∨ s.slew.capacity < s.slew.committed := by
  simp only [State.conditions, Pool.overdrawn, Bool.or_eq_true, decide_eq_true_eq]

/-- A tier is FAULTED when it is enabled and placed and has a fault kind (R35). -/
theorem Tier.shows_iff {r : Tier} : r.shows = true ↔ r.cfg.enabled = true ∧ r.standing ≠ none ∧ r.fault ≠ none := by
  simp only [Tier.shows, Tier.placed, Bool.and_eq_true, Option.isSome_iff_ne_none, and_assoc]

theorem State.conditions_tierFault_iff : s.conditions.tierFault = true ↔
    ∃ t, (s.tier t).cfg.enabled = true ∧ (s.tier t).standing ≠ none ∧ (s.tier t).fault ≠ none := by
  simp only [State.conditions, State.anyFaulted, List.any_eq_true, List.mem_finRange, true_and, beq_iff_eq,
    State.tierState_eq_faulted, Tier.shows_iff]

theorem AttentionBits.raises_iff {flags enables : AttentionBits} : flags.raises enables = true ↔
    (flags.fault = true ∧ enables.fault = true) ∨ (flags.hard = true ∧ enables.hard = true) ∨
      (flags.second = true ∧ enables.second = true) ∨ (flags.halt = true ∧ enables.halt = true) ∨
      (flags.stopline = true ∧ enables.stopline = true) ∨ (flags.overdrawn = true ∧ enables.overdrawn = true) ∨
      (flags.tierFault = true ∧ enables.tierFault = true) := by
  simp only [AttentionBits.raises, Bool.or_eq_true, Bool.and_eq_true, or_assoc]

/-- Where the flags and ATTN follow already, the update changes nothing. -/
theorem State.AttentionFollows.settle_eq (h : s.AttentionFollows) (high : s.resetHeld = false) : s.settle = s := by
  rw [State.settle, ← h.flags, ← h.attn high]

end Conditions

/-- Settles O30: each flag is its condition, ATTN the enabled flags. -/
theorem attentionFlagsFollowConditions : Obligations.AttentionFlagsFollowConditions := by
  intro s
  refine ⟨rfl, State.conditions_fault_iff, ?_, Iff.rfl, beq_iff_eq, Iff.rfl, State.conditions_overdrawn_iff,
    State.conditions_tierFault_iff, AttentionBits.raises_iff, State.AttentionFollows.settle_eq⟩
  exact State.conditions_hard_iff.trans
    (exists_congr fun r => and_congr_right fun _ => FaultKind.isHard_iff_mem)

/-! ### READ_STATUS and SET_MASK (R170, R174) -/

theorem bit_beq_one (n : Nat) : bit (n % 2 == 1) = n % 2 := by
  obtain zero | one := Nat.mod_two_eq_zero_or_one n
  · rw [zero]; rfl
  · rw [one]; rfl

/-- The byte of seven enables has the low seven bits of the one that set them (R174). -/
theorem toNat_attentionOfNat (n : Nat) : (attentionOfNat n).toNat = n % 128 := by
  simp only [AttentionBits.toNat, attentionOfNat, bit_beq_one]
  omega

/-- The seven enables are bits 0 to 6 (R174). -/
theorem attentionOfNat_eq_testBit (n : Nat) : attentionOfNat n =
    { fault := n.testBit 0, hard := n.testBit 1, second := n.testBit 2, halt := n.testBit 3, stopline := n.testBit 4,
      overdrawn := n.testBit 5, tierFault := n.testBit 6 } := by
  simp only [attentionOfNat, Nat.testBit_eq_decide_div_mod_eq, pow_zero, Nat.div_one]
  rfl

/-- Settles O31: the status bytes are those of the state before; the enables are the bits of the argument. -/
theorem readStatusAndSetMask : Obligations.ReadStatusAndSetMask := by
  refine ⟨fun s e rest due => ?_, fun s e rest due => ?_⟩
  · rw [exec_readStatus due, ← State.afterCommand_of]
    rfl
  · intro v on
    have enables : attentionOfNat v = on := attentionOfNat_eq_testBit v
    rw [exec_setMask due, doSetMask, ← toNat_attentionOfNat, ← State.afterCommand_of, enables]
    rfl

end Sys2Proof.Machine
end

section
/-! SUPPORT. What a step is on each form of the queue: the event at the front, or idling. -/

namespace Sys2Proof.Machine

section Queue
variable {s : State}

theorem step_of_pending_eq_cons {c : Instr} {rest : List Instr} (queue : s.pending = c :: rest) :
    step s = exec c { s with pending := rest } := by
  rw [step, queue]

/-- On an empty queue the block idles (assumption log 7). -/
theorem step_of_pending_eq_nil (queue : s.pending = []) : step s = .next s := by
  rw [step, queue]

end Queue

/-- Settles O53: both forms of the queue, by the step's equation for each; an event put in front of a queue leaves that queue
as the rest. -/
theorem stepRunsTheFrontEvent : Obligations.StepRunsTheFrontEvent :=
  ⟨fun _ _ => step_of_pending_eq_cons rfl, fun _ _ _ => step_of_pending_eq_cons, fun _ => step_of_pending_eq_nil⟩

end Sys2Proof.Machine
end
